-- ==== Sys2Proof/Word.lean ====
section
/-! DEFINITION. The widths of the machine: the byte (20_memory R50), the 16-bit word of every register
(10_state R20, R23, R26, R30) and the 20-bit physical address (20_memory R50). -/

namespace Sys2Proof

/-- One addressable location (00_scope R5: byte size 8). -/
abbrev Byte := BitVec 8

/-- A register, an offset within a segment, a segment value, the flags word (00_scope R5: XLEN 16). -/
abbrev Word := BitVec 16

/-- A physical (Router) address (00_scope R5: ADDR_BITS 20). -/
abbrev Addr := BitVec 20

end Sys2Proof
end

