-- ==== Sys2Proof/Machine/Bits.lean ====
section
/-! DEFINITION. Bit-field, sign-extension and byte-order helpers of decoding and execution (00_scope section 5). -/

namespace Sys2Proof

/-- `{hi, lo}`: the word whose byte at the lower address is `lo` (20_memory R60). -/
def wordOf (lo hi : Byte) : Word := hi ++ lo

/-- `v[7:0]`. -/
def loByte (v : Word) : Byte := v.extractLsb' 0 8

/-- `v[15:8]`. -/
def hiByte (v : Word) : Byte := v.extractLsb' 8 8

/-- `sext_16(b)`. -/
def sext16 (b : Byte) : Word := b.signExtend 16

/-- `zext_16(b)`. -/
def zext16 (b : Byte) : Word := b.setWidth 16

/-- The ModRM byte `{mod, reg, rm}` (30_encoding R96). -/
def modrmByte (mod : BitVec 2) (reg rm : BitVec 3) : Byte := (mod ++ reg) ++ rm

/-- `mod = m[7:6]` (30_encoding R96). -/
def modField (m : Byte) : BitVec 2 := m.extractLsb' 6 2

/-- `reg = m[5:3]` (30_encoding R96). -/
def regField (m : Byte) : BitVec 3 := m.extractLsb' 3 3

/-- `rm = m[2:0]` (30_encoding R96). -/
def rmField (m : Byte) : BitVec 3 := m.extractLsb' 0 3

end Sys2Proof
end

