-- ==== Sys2Proof/Machine/Flags.lean ====
section
/-! DEFINITION. The flags word (10_state R26, R27) and every flag computation of the spec: add and subtract
(41_arithmetic R170 to R172), logical (42_logical R200), shift and rotate (43_shift_rotate R220 to R222), and the
conditions of the conditional jumps (45_control_transfer R261). All are functions of operand values and the old flags
word; widths 8 and 16 share one definition. -/

namespace Sys2Proof.Machine

open Sys2Proof

/-- The nine named flags (10_state R26). -/
inductive Flag where
  | CF | PF | AF | ZF | SF | TF | IF | DF | OF
deriving DecidableEq, Repr

/-- The bit of a flag in FLAGS (10_state R26). -/
def flagBit : Flag → Nat
  | .CF => 0 | .PF => 2 | .AF => 4 | .ZF => 6 | .SF => 7 | .TF => 8 | .IF => 9 | .DF => 10 | .OF => 11

/-- `FLAGS.X`. -/
def getFlag (x : Flag) (f : Word) : Bool := f.getLsbD (flagBit x)

/-- The word with the one bit of a flag. -/
def flagMask (x : Flag) : Word := BitVec.ofNat 16 (2 ^ flagBit x)

/-- `FLAGS.X <- b`. -/
def putFlag (x : Flag) (b : Bool) (f : Word) : Word := if b then f ||| flagMask x else f &&& ~~~flagMask x

/-- What a write of `v` into FLAGS as a whole stores (10_state R27). -/
def wholeFlags (v : Word) : Word := (v &&& 0x0FD5#16) ||| 0xF002#16

/-- The fixed bits of FLAGS read as they must (10_state R27). -/
abbrev FlagsFixed (f : Word) : Prop := f &&& 0xF02A#16 = 0xF002#16

/-- FLAGS after SAHF of the byte `ah` (40_data_transfer R157). -/
def sahfFlags (ah : Byte) (f : Word) : Word := (f &&& 0xFF00#16) ||| zext16 ((ah &&& 0xD5#8) ||| 0x02#8)

/-- The byte holds an even number of 1 bits (41_arithmetic R170). -/
def evenOnes (b : Byte) : Bool := ((List.range 8).filter (fun i => b.getLsbD i)).length % 2 == 0

/-- `SZP(r, w)` (41_arithmetic R170). -/
def szpFlags {w : Nat} (r : BitVec w) (f : Word) : Word :=
  putFlag .PF (evenOnes (r.setWidth 8)) (putFlag .ZF (r == 0#w) (putFlag .SF r.msb f))

/-- `AddOp(a, b, cin, w)` (41_arithmetic R171): the result and the flags word. -/
def addOp {w : Nat} (a b : BitVec w) (cin : Bool) (f : Word) : BitVec w × Word :=
  let full := a.toNat + b.toNat + cin.toNat
  let r := BitVec.ofNat w full
  let f1 := putFlag .CF (decide (2 ^ w ≤ full)) f
  let f2 := putFlag .OF ((a ^^^ r) &&& (b ^^^ r)).msb f1
  let f3 := putFlag .AF ((a ^^^ b ^^^ r).getLsbD 4) f2
  (r, szpFlags r f3)

/-- `SubOp(a, b, bin, w)` (41_arithmetic R172): the result and the flags word. -/
def subOp {w : Nat} (a b : BitVec w) (bin : Bool) (f : Word) : BitVec w × Word :=
  let full : Int := (a.toNat : Int) - b.toNat - bin.toNat
  let r := BitVec.ofInt w full
  let f1 := putFlag .CF (decide (full < 0)) f
  let f2 := putFlag .OF ((a ^^^ b) &&& (a ^^^ r)).msb f1
  let f3 := putFlag .AF ((a ^^^ b ^^^ r).getLsbD 4) f2
  (r, szpFlags r f3)

/-- `LogicFlags(r, w)` (42_logical R200). -/
def logicFlags {w : Nat} (r : BitVec w) (f : Word) : Word :=
  szpFlags r (putFlag .AF false (putFlag .OF false (putFlag .CF false f)))

/-- The eight two-operand operations (41_arithmetic R173). -/
inductive AluOp where
  | add | or | adc | sbb | and | sub | xor | cmp
deriving DecidableEq, Repr

/-- Result and flags of a two-operand operation (41_arithmetic R174 to R178, 42_logical R201 to R203). -/
def aluOp {w : Nat} (op : AluOp) (a b : BitVec w) (f : Word) : BitVec w × Word :=
  match op with
  | .add => addOp a b false f
  | .or => (a ||| b, logicFlags (a ||| b) f)
  | .adc => addOp a b (getFlag .CF f) f
  | .sbb => subOp a b (getFlag .CF f) f
  | .and => (a &&& b, logicFlags (a &&& b) f)
  | .sub => subOp a b false f
  | .xor => (a ^^^ b, logicFlags (a ^^^ b) f)
  | .cmp => subOp a b false f

/-- The operation writes its result to the destination; CMP does not (41_arithmetic R173, R178). -/
def aluWrites : AluOp → Bool
  | .cmp => false
  | .add => true
  | .or => true
  | .adc => true
  | .sbb => true
  | .and => true
  | .sub => true
  | .xor => true

/-- INC (41_arithmetic R179, R181): AddOp with 1, CF preserved. -/
def incOp {w : Nat} (a : BitVec w) (f : Word) : BitVec w × Word :=
  let r := addOp a 1#w false f
  (r.1, putFlag .CF (getFlag .CF f) r.2)

/-- DEC (41_arithmetic R180, R182): SubOp with 1, CF preserved. -/
def decOp {w : Nat} (a : BitVec w) (f : Word) : BitVec w × Word :=
  let r := subOp a 1#w false f
  (r.1, putFlag .CF (getFlag .CF f) r.2)

/-- NEG (41_arithmetic R183). -/
def negOp {w : Nat} (a : BitVec w) (f : Word) : BitVec w × Word := subOp 0#w a false f

/-- The seven shift and rotate operations (43_shift_rotate R220). -/
inductive ShiftOp where
  | rol | ror | rcl | rcr | shl | shr | sar
deriving DecidableEq, Repr

/-- `{v[w-2:0], o}`. -/
def shiftLeftIn {w : Nat} (v : BitVec w) (o : Bool) : BitVec w := (v <<< 1) ||| BitVec.ofNat w o.toNat

/-- `{o, v[w-1:1]}`. -/
def shiftRightIn {w : Nat} (o : Bool) (v : BitVec w) : BitVec w := (v >>> 1) ||| (BitVec.ofNat w o.toNat <<< (w - 1))

/-- The one-bit step on a value and the working carry (43_shift_rotate R221). -/
def shiftStep {w : Nat} (op : ShiftOp) (v : BitVec w) (cf : Bool) : BitVec w × Bool :=
  match op with
  | .rol => (shiftLeftIn v v.msb, v.msb)
  | .ror => (shiftRightIn (v.getLsbD 0) v, v.getLsbD 0)
  | .rcl => (shiftLeftIn v cf, v.msb)
  | .rcr => (shiftRightIn cf v, v.getLsbD 0)
  | .shl => (shiftLeftIn v false, v.msb)
  | .shr => (shiftRightIn false v, v.getLsbD 0)
  | .sar => (shiftRightIn v.msb v, v.getLsbD 0)

/-- `c` steps in a row (43_shift_rotate R220). -/
def shiftSteps {w : Nat} (op : ShiftOp) (c : Nat) (v : BitVec w) (cf : Bool) : BitVec w × Bool :=
  match c with
  | 0 => (v, cf)
  | c + 1 => shiftSteps op c (shiftStep op v cf).1 (shiftStep op v cf).2

/-- The effective count (43_shift_rotate R220). -/
def shiftCount (raw : Byte) : Nat := (raw &&& 0x1F#8).toNat

/-- OF after a count of at least 1, from the final value and carry (43_shift_rotate R222). -/
def shiftOverflow {w : Nat} (op : ShiftOp) (v : BitVec w) (cf : Bool) : Bool :=
  match op with
  | .rol => v.msb ^^ cf
  | .rcl => v.msb ^^ cf
  | .shl => v.msb ^^ cf
  | .ror => v.msb ^^ v.getLsbD (w - 2)
  | .rcr => v.msb ^^ v.getLsbD (w - 2)
  | .shr => v.msb ^^ v.getLsbD (w - 2)
  | .sar => v.msb ^^ v.getLsbD (w - 2)

/-- The shifts write SF, ZF and PF, the rotates do not (43_shift_rotate R222). -/
def shiftSetsSzp : ShiftOp → Bool
  | .rol => false
  | .ror => false
  | .rcl => false
  | .rcr => false
  | .shl => true
  | .shr => true
  | .sar => true

/-- Flags after a count of at least 1 (43_shift_rotate R222). -/
def shiftFlags {w : Nat} (op : ShiftOp) (v : BitVec w) (cf : Bool) (f : Word) : Word :=
  let f1 := putFlag .OF (shiftOverflow op v cf) (putFlag .CF cf f)
  if shiftSetsSzp op then szpFlags v f1 else f1

/-- Result and flags of a shift or rotate by a raw count; none for an effective count of 0, which writes nothing and
changes no flag (43_shift_rotate R220). -/
def shiftOp {w : Nat} (op : ShiftOp) (raw : Byte) (v : BitVec w) (f : Word) : Option (BitVec w × Word) :=
  if shiftCount raw = 0 then none
  else
    let r := shiftSteps op (shiftCount raw) v (getFlag .CF f)
    some (r.1, shiftFlags op r.1 r.2 f)

/-- The sixteen conditions (45_control_transfer R261). -/
inductive Cond where
  | o | no | b | ae | e | ne | be | a | s | ns | p | np | l | ge | le | g
deriving DecidableEq, Repr

/-- `cond(cc)` on a flags word (45_control_transfer R261). -/
def condHolds (c : Cond) (f : Word) : Bool :=
  match c with
  | .o => getFlag .OF f
  | .no => !getFlag .OF f
  | .b => getFlag .CF f
  | .ae => !getFlag .CF f
  | .e => getFlag .ZF f
  | .ne => !getFlag .ZF f
  | .be => getFlag .CF f || getFlag .ZF f
  | .a => !getFlag .CF f && !getFlag .ZF f
  | .s => getFlag .SF f
  | .ns => !getFlag .SF f
  | .p => getFlag .PF f
  | .np => !getFlag .PF f
  | .l => getFlag .SF f != getFlag .OF f
  | .ge => getFlag .SF f == getFlag .OF f
  | .le => getFlag .ZF f || getFlag .SF f != getFlag .OF f
  | .g => !getFlag .ZF f && getFlag .SF f == getFlag .OF f

end Sys2Proof.Machine
end

