-- ==== Sys2Proof/Config.lean ====
section
/-! DEFINITION. The parameters of the block (00_scope R5): the constants the spec fixes, the types of the
platform parameters it leaves OPEN (MAP, LATCH), the values State.reset takes for those, and the device
environment `Dev` as a free value. -/

namespace Sys2Proof

/-- Latching policy of an interrupt line (60_exceptions R325). -/
inductive Latch where
  | level
  | edge
deriving DecidableEq, Repr

/-- What a region descriptor is bound to (20_memory R51, R56). A store is named by its number; a handler by the
number of its device, with a flag for each side of the pair that is present. -/
inductive Target where
  | ram (store : Nat)
  | rom (store : Nat)
  | handler (dev : Nat) (canRead canWrite : Bool)
deriving DecidableEq, Repr

/-- A region descriptor (20_memory R51): first and last address of the base range, the target, and the mask of
address bits ignored when matching. `last` is the field the spec calls `end`. -/
structure Region where
  start : Addr
  last : Addr
  target : Target
  mirror : Addr
deriving DecidableEq, Repr

/-- One call the core makes to the device environment: a handler read or write at the byte offset of
20_memory R54, or the interrupt acknowledge of 60_exceptions R327. -/
inductive DevEvent where
  | read (dev off : Nat)
  | write (dev off : Nat) (v : Byte)
  | ack
deriving DecidableEq, Repr

/-- A call of `set_irq_line(line, state)` made by a handler; the arguments are not checked here
(60_exceptions R325: any line, any state may be given). -/
structure IrqCall where
  line : Nat
  level : Nat
deriving DecidableEq, Repr

/-- All a handler call can do to the core (20_memory R57): the byte it returns (ignored for a write), the
`set_irq_line` calls it makes, in order, and whether it requests a machine reset. -/
structure DevAnswer where
  value : Byte
  irqs : List IrqCall
  reset : Bool
deriving DecidableEq, Repr, Inhabited

/-- Value of one byte read from an unmapped address (20_memory R55). -/
def Config.unmapFill : Byte := 0xFF#8

/-- Most prefix bytes one instruction may carry (30_encoding R93). -/
def Config.prefixMax : Nat := 4

/-- Physical address of the interrupt vector table (20_memory R71). -/
def Config.ivtBase : Nat := 0

/-- Segment of the reset entry point (70_reset_and_hazards R370). -/
def Config.resetCS : Word := 0xFFFF#16

/-- Offset of the reset entry point (70_reset_and_hazards R370). -/
def Config.resetPC : Word := 0x0000#16

/-- What a store cell that nothing has written or listed holds. DESIGN CHOICE (log 2; unsafe): the spec makes the
power-on contents the parameter RAM0. -/
def Config.unlistedCell : Byte := 0x00#8

/-- The MAP of `State.reset`: one RAM region over the whole space. DESIGN CHOICE (log 1; unsafe): MAP is an OPEN
parameter; 95_test_vectors uses this map for its vectors. -/
def Config.resetMap : List Region :=
  [ { start := 0x00000#20, last := 0xFFFFF#20, target := .ram 0, mirror := 0#20 } ]

/-- The device environment (00_scope R5, `Dev`): what the latest call of a history of calls is answered. No body:
nothing is known of it (93_implementation_defined I6, I7, I8: any value). It is asked only where `State.devScript`
gives no answer (log 5). -/
opaque Config.device : List DevEvent → DevAnswer

end Sys2Proof
end

