-- ==== Sys2Proof/Syntax.lean ====
section
/-! DEFINITION. The instruction set as syntax: register names, ModRM operands and ONE constructor of `Instr` for
each of the 233 rows of spec/opcode_table.json (226 instruction forms, 7 prefix bytes; 30_encoding R104, R105). -/

namespace Sys2Proof

/-- The eight 16-bit general registers, in the order of their numbers (10_state R21). -/
inductive Reg16 where
  | ax | cx | dx | bx | sp | bp | si | di
deriving DecidableEq, Repr

/-- The eight 8-bit registers, in the order of their numbers (10_state R21). -/
inductive Reg8 where
  | al | cl | dl | bl | ah | ch | dh | bh
deriving DecidableEq, Repr

/-- The four segment registers, in the order of their numbers (10_state R30). -/
inductive SReg where
  | es | cs | ss | ds
deriving DecidableEq, Repr

/-- The repeat prefix in force (30_encoding R92): `E` for REP/REPE (0xF3), `NE` for REPNE (0xF2). -/
inductive Rep where
  | e | ne
deriving DecidableEq, Repr

/-- The base sum of a ModRM memory operand, in the order of `rm` (30_encoding R96). `bp` is `rm = 6` with
`mod` 1 or 2. -/
inductive Base where
  | bxsi | bxdi | bpsi | bpdi | si | di | bp | bx
deriving DecidableEq, Repr

/-- A ModRM memory operand as it is encoded (30_encoding R96, R97): `plain` is `mod = 0` with `rm` not 6, `direct`
is `mod = 0`, `rm = 6`, `disp8` is `mod = 1` (the byte is sign-extended), `disp16` is `mod = 2`. -/
inductive MemRef where
  | plain (b : Base)
  | direct (d : Word)
  | disp8 (b : Base) (d : Byte)
  | disp16 (b : Base) (d : Word)
deriving DecidableEq, Repr

/-- An `Eb` operand: an 8-bit register (`mod = 3`) or a memory operand. -/
inductive Rm8 where
  | reg (r : Reg8)
  | mem (m : MemRef)
deriving DecidableEq, Repr

/-- An `Ew` operand: a 16-bit register (`mod = 3`) or a memory operand. -/
inductive Rm16 where
  | reg (r : Reg16)
  | mem (m : MemRef)
deriving DecidableEq, Repr

/-- The instructions: one constructor per row of spec/opcode_table.json, in the table's order. Each docstring gives
the row's mnemonic and operands, its opcode (with `/n` the ModRM `reg` field) and the rule of its meaning. -/
inductive Instr where
  /-- ADD Eb,Gb: 00 /r, R174. -/
  | addEbGb (rm : Rm8) (reg : Reg8)
  /-- ADD Ew,Gw: 01 /r, R174. -/
  | addEwGw (rm : Rm16) (reg : Reg16)
  /-- ADD Gb,Eb: 02 /r, R174. -/
  | addGbEb (reg : Reg8) (rm : Rm8)
  /-- ADD Gw,Ew: 03 /r, R174. -/
  | addGwEw (reg : Reg16) (rm : Rm16)
  /-- ADD AL,Ib: 04, R174. -/
  | addALIb (imm : Byte)
  /-- ADD AX,Iw: 05, R174. -/
  | addAXIw (imm : Word)
  /-- OR Eb,Gb: 08 /r, R202. -/
  | orEbGb (rm : Rm8) (reg : Reg8)
  /-- OR Ew,Gw: 09 /r, R202. -/
  | orEwGw (rm : Rm16) (reg : Reg16)
  /-- OR Gb,Eb: 0A /r, R202. -/
  | orGbEb (reg : Reg8) (rm : Rm8)
  /-- OR Gw,Ew: 0B /r, R202. -/
  | orGwEw (reg : Reg16) (rm : Rm16)
  /-- OR AL,Ib: 0C, R202. -/
  | orALIb (imm : Byte)
  /-- OR AX,Iw: 0D, R202. -/
  | orAXIw (imm : Word)
  /-- ADC Eb,Gb: 10 /r, R175. -/
  | adcEbGb (rm : Rm8) (reg : Reg8)
  /-- ADC Ew,Gw: 11 /r, R175. -/
  | adcEwGw (rm : Rm16) (reg : Reg16)
  /-- ADC Gb,Eb: 12 /r, R175. -/
  | adcGbEb (reg : Reg8) (rm : Rm8)
  /-- ADC Gw,Ew: 13 /r, R175. -/
  | adcGwEw (reg : Reg16) (rm : Rm16)
  /-- ADC AL,Ib: 14, R175. -/
  | adcALIb (imm : Byte)
  /-- ADC AX,Iw: 15, R175. -/
  | adcAXIw (imm : Word)
  /-- SBB Eb,Gb: 18 /r, R177. -/
  | sbbEbGb (rm : Rm8) (reg : Reg8)
  /-- SBB Ew,Gw: 19 /r, R177. -/
  | sbbEwGw (rm : Rm16) (reg : Reg16)
  /-- SBB Gb,Eb: 1A /r, R177. -/
  | sbbGbEb (reg : Reg8) (rm : Rm8)
  /-- SBB Gw,Ew: 1B /r, R177. -/
  | sbbGwEw (reg : Reg16) (rm : Rm16)
  /-- SBB AL,Ib: 1C, R177. -/
  | sbbALIb (imm : Byte)
  /-- SBB AX,Iw: 1D, R177. -/
  | sbbAXIw (imm : Word)
  /-- AND Eb,Gb: 20 /r, R201. -/
  | andEbGb (rm : Rm8) (reg : Reg8)
  /-- AND Ew,Gw: 21 /r, R201. -/
  | andEwGw (rm : Rm16) (reg : Reg16)
  /-- AND Gb,Eb: 22 /r, R201. -/
  | andGbEb (reg : Reg8) (rm : Rm8)
  /-- AND Gw,Ew: 23 /r, R201. -/
  | andGwEw (reg : Reg16) (rm : Rm16)
  /-- AND AL,Ib: 24, R201. -/
  | andALIb (imm : Byte)
  /-- AND AX,Iw: 25, R201. -/
  | andAXIw (imm : Word)
  /-- SUB Eb,Gb: 28 /r, R176. -/
  | subEbGb (rm : Rm8) (reg : Reg8)
  /-- SUB Ew,Gw: 29 /r, R176. -/
  | subEwGw (rm : Rm16) (reg : Reg16)
  /-- SUB Gb,Eb: 2A /r, R176. -/
  | subGbEb (reg : Reg8) (rm : Rm8)
  /-- SUB Gw,Ew: 2B /r, R176. -/
  | subGwEw (reg : Reg16) (rm : Rm16)
  /-- SUB AL,Ib: 2C, R176. -/
  | subALIb (imm : Byte)
  /-- SUB AX,Iw: 2D, R176. -/
  | subAXIw (imm : Word)
  /-- XOR Eb,Gb: 30 /r, R203. -/
  | xorEbGb (rm : Rm8) (reg : Reg8)
  /-- XOR Ew,Gw: 31 /r, R203. -/
  | xorEwGw (rm : Rm16) (reg : Reg16)
  /-- XOR Gb,Eb: 32 /r, R203. -/
  | xorGbEb (reg : Reg8) (rm : Rm8)
  /-- XOR Gw,Ew: 33 /r, R203. -/
  | xorGwEw (reg : Reg16) (rm : Rm16)
  /-- XOR AL,Ib: 34, R203. -/
  | xorALIb (imm : Byte)
  /-- XOR AX,Iw: 35, R203. -/
  | xorAXIw (imm : Word)
  /-- CMP Eb,Gb: 38 /r, R178. -/
  | cmpEbGb (rm : Rm8) (reg : Reg8)
  /-- CMP Ew,Gw: 39 /r, R178. -/
  | cmpEwGw (rm : Rm16) (reg : Reg16)
  /-- CMP Gb,Eb: 3A /r, R178. -/
  | cmpGbEb (reg : Reg8) (rm : Rm8)
  /-- CMP Gw,Ew: 3B /r, R178. -/
  | cmpGwEw (reg : Reg16) (rm : Rm16)
  /-- CMP AL,Ib: 3C, R178. -/
  | cmpALIb (imm : Byte)
  /-- CMP AX,Iw: 3D, R178. -/
  | cmpAXIw (imm : Word)
  /-- PUSH ES: 06, R150. -/
  | pushES
  /-- PUSH CS: 0E, R150. -/
  | pushCS
  /-- PUSH SS: 16, R150. -/
  | pushSS
  /-- PUSH DS: 1E, R150. -/
  | pushDS
  /-- POP ES: 07, R151. -/
  | popES
  /-- POP SS: 17, R151. -/
  | popSS
  /-- POP DS: 1F, R151. -/
  | popDS
  /-- INC r16: 40+r, R179. -/
  | incR16 (reg : Reg16)
  /-- DEC r16: 48+r, R180. -/
  | decR16 (reg : Reg16)
  /-- PUSH r16: 50+r, R148. -/
  | pushR16 (reg : Reg16)
  /-- POP r16: 58+r, R149. -/
  | popR16 (reg : Reg16)
  /-- JO rel8: 70, R261. -/
  | jo (rel : Byte)
  /-- JNO rel8: 71, R261. -/
  | jno (rel : Byte)
  /-- JB rel8: 72, R261. -/
  | jb (rel : Byte)
  /-- JAE rel8: 73, R261. -/
  | jae (rel : Byte)
  /-- JE rel8: 74, R261. -/
  | je (rel : Byte)
  /-- JNE rel8: 75, R261. -/
  | jne (rel : Byte)
  /-- JBE rel8: 76, R261. -/
  | jbe (rel : Byte)
  /-- JA rel8: 77, R261. -/
  | ja (rel : Byte)
  /-- JS rel8: 78, R261. -/
  | js (rel : Byte)
  /-- JNS rel8: 79, R261. -/
  | jns (rel : Byte)
  /-- JP rel8: 7A, R261. -/
  | jp (rel : Byte)
  /-- JNP rel8: 7B, R261. -/
  | jnp (rel : Byte)
  /-- JL rel8: 7C, R261. -/
  | jl (rel : Byte)
  /-- JGE rel8: 7D, R261. -/
  | jge (rel : Byte)
  /-- JLE rel8: 7E, R261. -/
  | jle (rel : Byte)
  /-- JG rel8: 7F, R261. -/
  | jg (rel : Byte)
  /-- ADD Eb,Ib: 80 /0, R174. -/
  | addEbIb (rm : Rm8) (imm : Byte)
  /-- ADD Ew,Iw: 81 /0, R174. -/
  | addEwIw (rm : Rm16) (imm : Word)
  /-- ADD Ew,Ibs: 83 /0, R174. -/
  | addEwIbs (rm : Rm16) (imm : Byte)
  /-- OR Eb,Ib: 80 /1, R202. -/
  | orEbIb (rm : Rm8) (imm : Byte)
  /-- OR Ew,Iw: 81 /1, R202. -/
  | orEwIw (rm : Rm16) (imm : Word)
  /-- OR Ew,Ibs: 83 /1, R202. -/
  | orEwIbs (rm : Rm16) (imm : Byte)
  /-- ADC Eb,Ib: 80 /2, R175. -/
  | adcEbIb (rm : Rm8) (imm : Byte)
  /-- ADC Ew,Iw: 81 /2, R175. -/
  | adcEwIw (rm : Rm16) (imm : Word)
  /-- ADC Ew,Ibs: 83 /2, R175. -/
  | adcEwIbs (rm : Rm16) (imm : Byte)
  /-- SBB Eb,Ib: 80 /3, R177. -/
  | sbbEbIb (rm : Rm8) (imm : Byte)
  /-- SBB Ew,Iw: 81 /3, R177. -/
  | sbbEwIw (rm : Rm16) (imm : Word)
  /-- SBB Ew,Ibs: 83 /3, R177. -/
  | sbbEwIbs (rm : Rm16) (imm : Byte)
  /-- AND Eb,Ib: 80 /4, R201. -/
  | andEbIb (rm : Rm8) (imm : Byte)
  /-- AND Ew,Iw: 81 /4, R201. -/
  | andEwIw (rm : Rm16) (imm : Word)
  /-- AND Ew,Ibs: 83 /4, R201. -/
  | andEwIbs (rm : Rm16) (imm : Byte)
  /-- SUB Eb,Ib: 80 /5, R176. -/
  | subEbIb (rm : Rm8) (imm : Byte)
  /-- SUB Ew,Iw: 81 /5, R176. -/
  | subEwIw (rm : Rm16) (imm : Word)
  /-- SUB Ew,Ibs: 83 /5, R176. -/
  | subEwIbs (rm : Rm16) (imm : Byte)
  /-- XOR Eb,Ib: 80 /6, R203. -/
  | xorEbIb (rm : Rm8) (imm : Byte)
  /-- XOR Ew,Iw: 81 /6, R203. -/
  | xorEwIw (rm : Rm16) (imm : Word)
  /-- XOR Ew,Ibs: 83 /6, R203. -/
  | xorEwIbs (rm : Rm16) (imm : Byte)
  /-- CMP Eb,Ib: 80 /7, R178. -/
  | cmpEbIb (rm : Rm8) (imm : Byte)
  /-- CMP Ew,Iw: 81 /7, R178. -/
  | cmpEwIw (rm : Rm16) (imm : Word)
  /-- CMP Ew,Ibs: 83 /7, R178. -/
  | cmpEwIbs (rm : Rm16) (imm : Byte)
  /-- TEST Eb,Gb: 84 /r, R204. -/
  | testEbGb (rm : Rm8) (reg : Reg8)
  /-- TEST Ew,Gw: 85 /r, R204. -/
  | testEwGw (rm : Rm16) (reg : Reg16)
  /-- XCHG Eb,Gb: 86 /r, R139. -/
  | xchgEbGb (rm : Rm8) (reg : Reg8)
  /-- XCHG Ew,Gw: 87 /r, R139. -/
  | xchgEwGw (rm : Rm16) (reg : Reg16)
  /-- MOV Eb,Gb: 88 /r, R130. -/
  | movEbGb (rm : Rm8) (reg : Reg8)
  /-- MOV Ew,Gw: 89 /r, R130. -/
  | movEwGw (rm : Rm16) (reg : Reg16)
  /-- MOV Gb,Eb: 8A /r, R131. -/
  | movGbEb (reg : Reg8) (rm : Rm8)
  /-- MOV Gw,Ew: 8B /r, R131. -/
  | movGwEw (reg : Reg16) (rm : Rm16)
  /-- MOV Ew,Sw: 8C /r, R132. -/
  | movEwSw (rm : Rm16) (sreg : SReg)
  /-- LEA Gw,M: 8D /r, R142. -/
  | lea (reg : Reg16) (mem : MemRef)
  /-- MOV ES,Ew: 8E /0, R133. -/
  | movESEw (rm : Rm16)
  /-- MOV SS,Ew: 8E /2, R133. -/
  | movSSEw (rm : Rm16)
  /-- MOV DS,Ew: 8E /3, R133. -/
  | movDSEw (rm : Rm16)
  /-- POP Ew: 8F /0, R153. -/
  | popEw (rm : Rm16)
  /-- NOP: 90, R141. -/
  | nop
  /-- XCHG AX,r16: 90+r, R140. -/
  | xchgAXR16 (reg : Reg16)
  /-- CBW: 98, R158. -/
  | cbw
  /-- CWD: 99, R159. -/
  | cwd
  /-- CALL far ptr16:16: 9A, R272. -/
  | callFar (off : Word) (seg : Word)
  /-- PUSHF: 9C, R154. -/
  | pushf
  /-- POPF: 9D, R155. -/
  | popf
  /-- SAHF: 9E, R157. -/
  | sahf
  /-- LAHF: 9F, R156. -/
  | lahf
  /-- MOV AL,[moffs16]: A0, R134. -/
  | movALMoffs (moffs : Word)
  /-- MOV AX,[moffs16]: A1, R134. -/
  | movAXMoffs (moffs : Word)
  /-- MOV [moffs16],AL: A2, R135. -/
  | movMoffsAL (moffs : Word)
  /-- MOV [moffs16],AX: A3, R135. -/
  | movMoffsAX (moffs : Word)
  /-- MOVSB: A4, R242. -/
  | movsb
  /-- MOVSW: A5, R242. -/
  | movsw
  /-- CMPSB: A6, R243. -/
  | cmpsb
  /-- CMPSW: A7, R243. -/
  | cmpsw
  /-- TEST AL,Ib: A8, R204. -/
  | testALIb (imm : Byte)
  /-- TEST AX,Iw: A9, R204. -/
  | testAXIw (imm : Word)
  /-- STOSB: AA, R244. -/
  | stosb
  /-- STOSW: AB, R244. -/
  | stosw
  /-- LODSB: AC, R245. -/
  | lodsb
  /-- LODSW: AD, R245. -/
  | lodsw
  /-- SCASB: AE, R246. -/
  | scasb
  /-- SCASW: AF, R246. -/
  | scasw
  /-- MOV r8,Ib: B0+r, R136. -/
  | movR8Ib (reg : Reg8) (imm : Byte)
  /-- MOV r16,Iw: B8+r, R137. -/
  | movR16Iw (reg : Reg16) (imm : Word)
  /-- ROL Eb,cnt8: C0 /0, R223. -/
  | rolEbCnt8 (rm : Rm8) (cnt : Byte)
  /-- ROR Eb,cnt8: C0 /1, R224. -/
  | rorEbCnt8 (rm : Rm8) (cnt : Byte)
  /-- RCL Eb,cnt8: C0 /2, R225. -/
  | rclEbCnt8 (rm : Rm8) (cnt : Byte)
  /-- RCR Eb,cnt8: C0 /3, R226. -/
  | rcrEbCnt8 (rm : Rm8) (cnt : Byte)
  /-- SHL Eb,cnt8: C0 /4, R227. -/
  | shlEbCnt8 (rm : Rm8) (cnt : Byte)
  /-- SHR Eb,cnt8: C0 /5, R228. -/
  | shrEbCnt8 (rm : Rm8) (cnt : Byte)
  /-- SAR Eb,cnt8: C0 /7, R229. -/
  | sarEbCnt8 (rm : Rm8) (cnt : Byte)
  /-- ROL Ew,cnt8: C1 /0, R223. -/
  | rolEwCnt8 (rm : Rm16) (cnt : Byte)
  /-- ROR Ew,cnt8: C1 /1, R224. -/
  | rorEwCnt8 (rm : Rm16) (cnt : Byte)
  /-- RCL Ew,cnt8: C1 /2, R225. -/
  | rclEwCnt8 (rm : Rm16) (cnt : Byte)
  /-- RCR Ew,cnt8: C1 /3, R226. -/
  | rcrEwCnt8 (rm : Rm16) (cnt : Byte)
  /-- SHL Ew,cnt8: C1 /4, R227. -/
  | shlEwCnt8 (rm : Rm16) (cnt : Byte)
  /-- SHR Ew,cnt8: C1 /5, R228. -/
  | shrEwCnt8 (rm : Rm16) (cnt : Byte)
  /-- SAR Ew,cnt8: C1 /7, R229. -/
  | sarEwCnt8 (rm : Rm16) (cnt : Byte)
  /-- ROL Eb,1: D0 /0, R223. -/
  | rolEb1 (rm : Rm8)
  /-- ROR Eb,1: D0 /1, R224. -/
  | rorEb1 (rm : Rm8)
  /-- RCL Eb,1: D0 /2, R225. -/
  | rclEb1 (rm : Rm8)
  /-- RCR Eb,1: D0 /3, R226. -/
  | rcrEb1 (rm : Rm8)
  /-- SHL Eb,1: D0 /4, R227. -/
  | shlEb1 (rm : Rm8)
  /-- SHR Eb,1: D0 /5, R228. -/
  | shrEb1 (rm : Rm8)
  /-- SAR Eb,1: D0 /7, R229. -/
  | sarEb1 (rm : Rm8)
  /-- ROL Ew,1: D1 /0, R223. -/
  | rolEw1 (rm : Rm16)
  /-- ROR Ew,1: D1 /1, R224. -/
  | rorEw1 (rm : Rm16)
  /-- RCL Ew,1: D1 /2, R225. -/
  | rclEw1 (rm : Rm16)
  /-- RCR Ew,1: D1 /3, R226. -/
  | rcrEw1 (rm : Rm16)
  /-- SHL Ew,1: D1 /4, R227. -/
  | shlEw1 (rm : Rm16)
  /-- SHR Ew,1: D1 /5, R228. -/
  | shrEw1 (rm : Rm16)
  /-- SAR Ew,1: D1 /7, R229. -/
  | sarEw1 (rm : Rm16)
  /-- ROL Eb,CL: D2 /0, R223. -/
  | rolEbCL (rm : Rm8)
  /-- ROR Eb,CL: D2 /1, R224. -/
  | rorEbCL (rm : Rm8)
  /-- RCL Eb,CL: D2 /2, R225. -/
  | rclEbCL (rm : Rm8)
  /-- RCR Eb,CL: D2 /3, R226. -/
  | rcrEbCL (rm : Rm8)
  /-- SHL Eb,CL: D2 /4, R227. -/
  | shlEbCL (rm : Rm8)
  /-- SHR Eb,CL: D2 /5, R228. -/
  | shrEbCL (rm : Rm8)
  /-- SAR Eb,CL: D2 /7, R229. -/
  | sarEbCL (rm : Rm8)
  /-- ROL Ew,CL: D3 /0, R223. -/
  | rolEwCL (rm : Rm16)
  /-- ROR Ew,CL: D3 /1, R224. -/
  | rorEwCL (rm : Rm16)
  /-- RCL Ew,CL: D3 /2, R225. -/
  | rclEwCL (rm : Rm16)
  /-- RCR Ew,CL: D3 /3, R226. -/
  | rcrEwCL (rm : Rm16)
  /-- SHL Ew,CL: D3 /4, R227. -/
  | shlEwCL (rm : Rm16)
  /-- SHR Ew,CL: D3 /5, R228. -/
  | shrEwCL (rm : Rm16)
  /-- SAR Ew,CL: D3 /7, R229. -/
  | sarEwCL (rm : Rm16)
  /-- RET pop16: C2, R276. -/
  | retPop (cnt : Word)
  /-- RET: C3, R275. -/
  | ret
  /-- LES Gw,M: C4 /r, R144. -/
  | les (reg : Reg16) (mem : MemRef)
  /-- LDS Gw,M: C5 /r, R143. -/
  | lds (reg : Reg16) (mem : MemRef)
  /-- MOV Eb,Ib: C6 /0, R138. -/
  | movEbIb (rm : Rm8) (imm : Byte)
  /-- MOV Ew,Iw: C7 /0, R138. -/
  | movEwIw (rm : Rm16) (imm : Word)
  /-- RETF pop16: CA, R278. -/
  | retfPop (cnt : Word)
  /-- RETF: CB, R277. -/
  | retf
  /-- INT3: CC, R280. -/
  | int3
  /-- INT vec8: CD, R279. -/
  | int (vec : Byte)
  /-- INTO: CE, R281. -/
  | into
  /-- IRET: CF, R282. -/
  | iret
  /-- XLAT: D7, R145. -/
  | xlat
  /-- LOOPNE rel8: E0, R264. -/
  | loopne (rel : Byte)
  /-- LOOPE rel8: E1, R263. -/
  | loope (rel : Byte)
  /-- LOOP rel8: E2, R262. -/
  | loop (rel : Byte)
  /-- JCXZ rel8: E3, R265. -/
  | jcxz (rel : Byte)
  /-- CALL rel16: E8, R271. -/
  | callRel16 (rel : Word)
  /-- JMP rel16: E9, R267. -/
  | jmpRel16 (rel : Word)
  /-- JMP far ptr16:16: EA, R268. -/
  | jmpFar (off : Word) (seg : Word)
  /-- JMP rel8: EB, R266. -/
  | jmpRel8 (rel : Byte)
  /-- HLT: F4, R300. -/
  | hlt
  /-- CMC: F5, R303. -/
  | cmc
  /-- TEST Eb,Ib: F6 /0, R204. -/
  | testEbIb (rm : Rm8) (imm : Byte)
  /-- TEST Ew,Iw: F7 /0, R204. -/
  | testEwIw (rm : Rm16) (imm : Word)
  /-- NOT Eb: F6 /2, R205. -/
  | notEb (rm : Rm8)
  /-- NOT Ew: F7 /2, R205. -/
  | notEw (rm : Rm16)
  /-- NEG Eb: F6 /3, R183. -/
  | negEb (rm : Rm8)
  /-- NEG Ew: F7 /3, R183. -/
  | negEw (rm : Rm16)
  /-- CLC: F8, R301. -/
  | clc
  /-- STC: F9, R302. -/
  | stc
  /-- CLI: FA, R304. -/
  | cli
  /-- STI: FB, R305. -/
  | sti
  /-- CLD: FC, R306. -/
  | cld
  /-- STD: FD, R307. -/
  | std
  /-- INC Eb: FE /0, R181. -/
  | incEb (rm : Rm8)
  /-- DEC Eb: FE /1, R182. -/
  | decEb (rm : Rm8)
  /-- INC Ew: FF /0, R181. -/
  | incEw (rm : Rm16)
  /-- DEC Ew: FF /1, R182. -/
  | decEw (rm : Rm16)
  /-- CALL Ew (near indirect): FF /2, R273. -/
  | callEw (rm : Rm16)
  /-- CALL far M (m16:16): FF /3, R274. -/
  | callFarM (mem : MemRef)
  /-- JMP Ew (near indirect): FF /4, R269. -/
  | jmpEw (rm : Rm16)
  /-- JMP far M (m16:16): FF /5, R270. -/
  | jmpFarM (mem : MemRef)
  /-- PUSH Ew: FF /6, R152. -/
  | pushEw (rm : Rm16)
  /-- ES:: 26, R92. -/
  | segES
  /-- CS:: 2E, R92. -/
  | segCS
  /-- SS:: 36, R92. -/
  | segSS
  /-- DS:: 3E, R92. -/
  | segDS
  /-- LOCK: F0, R308. -/
  | lock
  /-- REPNE: F2, R92. -/
  | repne
  /-- REP: F3, R92. -/
  | rep
deriving DecidableEq, Repr

end Sys2Proof
end

