-- ==== Sys2Proof/Machine/State.lean ====
section
/-! DEFINITION. The machine's state as plain data (INVENTORY.md, State), the reasons a step can stop, and the state
after reset. -/

namespace Sys2Proof.Machine

open Sys2Proof

/-- The eight 16-bit general registers (10_state R20, R21). -/
structure Regs where
  ax : Word
  cx : Word
  dx : Word
  bx : Word
  sp : Word
  bp : Word
  si : Word
  di : Word
deriving DecidableEq, Repr

/-- The four segment registers (10_state R30). -/
structure Segs where
  es : Word
  cs : Word
  ss : Word
  ds : Word
deriving DecidableEq, Repr

/-- The contents of all RAM and ROM stores (20_memory R51, R56; 10_state R37): cell number and byte, in the canonical
form `Memory.wf` of Machine/Memory.lean. The cell number of offset `off` in store `n` is `n * 2^20 + off` (log 9). -/
abbrev Memory := List Host.Cell

/-- The state of the machine between steps, and, while an instruction runs, within it. -/
structure State where
  /-- General registers (10_state R20). -/
  regs : Regs
  /-- Segment registers (10_state R30). -/
  segs : Segs
  /-- Program counter, an offset in CS (10_state R23). While `exec` runs it is `pc_next` (10_state R24). -/
  pc : Word
  /-- The flags word (10_state R26, R27). -/
  flags : Word
  /-- Vector of the last accepted external interrupt (10_state R32). -/
  vector : Byte
  /-- Pending requests: bit 0 INT, bit 1 NMI (10_state R33). -/
  pending : BitVec 2
  /-- Halt flag (10_state R34). -/
  halted : Bool
  /-- Interrupt-disabled window (10_state R35). -/
  noint : Bool
  /-- Last state of line INT (10_state R36). -/
  lineInt : Bool
  /-- Last state of line NMI (10_state R36). -/
  lineNmi : Bool
  /-- A reset requested from inside a handler, latched (70_reset_and_hazards R371). -/
  resetReq : Bool
  /-- Segment override of the instruction in progress (30_encoding R92). -/
  segov : Option SReg
  /-- Repeat prefix of the instruction in progress (30_encoding R92). -/
  rep : Option Rep
  /-- The Router's descriptor list (20_memory R51): set by the host, never by a step (R78). -/
  map : List Region
  /-- Latching policy of line INT (60_exceptions R325): a parameter, never changed by a step. -/
  latchInt : Latch
  /-- Latching policy of line NMI (60_exceptions R325): a parameter, never changed by a step. -/
  latchNmi : Latch
  /-- RAM and ROM stores (10_state R37). -/
  mem : Memory
  /-- MODEL'S OWN (log 5): the device environment's answers to the next handler calls, first one first. -/
  devScript : List DevAnswer
  /-- MODEL'S OWN (log 5): the handler calls made so far, first one first. -/
  devLog : List DevEvent
  /-- The debug-hook events so far, first one first (60_exceptions R339). -/
  trace : List Addr
deriving DecidableEq, Repr

/-- Reasons for which the machine would stop with a fault. There is none: no access and no instruction of this machine
can fault (20_memory R55, 60_exceptions R344), and every exception the spec names is a trap, which is a next state. -/
inductive Fault where
deriving DecidableEq, Repr

/-- Reasons for which a step has no meaning. -/
inductive Refusal where
  /-- Raised by an arm of `exec` for an instruction without a meaning: by none of this model. Safe: the run stops. -/
  | notModelled (mnemonic : String)
  /-- Raised by `step`, `execute` and `setMap` when MAP holds an ill-formed descriptor (20_memory R52: a model gives no
  meaning to such a MAP). Safe: the run stops. -/
  | illFormedMap
deriving DecidableEq, Repr

/-- The registers after reset (10_state R40). -/
def Regs.reset : Regs := { ax := 0, cx := 0, dx := 0, bx := 0, sp := 0, bp := 0, si := 0, di := 0 }

/-- The segment registers after reset (10_state R40). -/
def Segs.reset : Segs := { es := 0, cs := Config.resetCS, ss := 0, ds := 0 }

/-- The flags word after reset (10_state R40): every named flag 0. -/
def flagsReset : Word := 0xF002#16

/-- Power-on (70_reset_and_hazards R373): a platform (MAP, latching policies, store contents, device answers), then the
reset values of 10_state R40. -/
def State.powerOn (map : List Region) (latchInt latchNmi : Latch) (ram0 : Memory) (script : List DevAnswer) : State where
  regs := Regs.reset
  segs := Segs.reset
  pc := Config.resetPC
  flags := flagsReset
  vector := 0
  pending := 0
  halted := false
  noint := false
  lineInt := false
  lineNmi := false
  resetReq := false
  segov := none
  rep := none
  map := map
  latchInt := latchInt
  latchNmi := latchNmi
  mem := ram0
  devScript := script
  devLog := []
  trace := []

/-- The machine right after power-on and reset (10_state R40, 70_reset_and_hazards R370, R373), on the platform that
logs 1, 2 and 5 name: one RAM region over the whole space with nothing listed, no device answers prepared, and the
latching policies the spec gives as defaults (60_exceptions R325). -/
def State.reset : State := State.powerOn Config.resetMap .level .edge [] []

end Sys2Proof.Machine
end

