-- ==== Sys2Proof/Machine/Irq.lean ====
section
/-! DEFINITION. The interrupt controller's inputs (60_exceptions R324 to R327) and the calls the core makes to the
device environment (20_memory R57). -/

namespace Sys2Proof.Machine

open Sys2Proof

/-- The bit of PENDING for line INT (10_state R33). -/
def pendingInt (s : State) : Bool := s.pending.getLsbD 0

/-- The bit of PENDING for line NMI (10_state R33). -/
def pendingNmi (s : State) : Bool := s.pending.getLsbD 1

/-- PENDING.INT <- b. -/
def setPendingInt (b : Bool) (s : State) : State :=
  { s with pending := if b then s.pending ||| 1#2 else s.pending &&& 2#2 }

/-- PENDING.NMI <- b. -/
def setPendingNmi (b : Bool) (s : State) : State :=
  { s with pending := if b then s.pending ||| 2#2 else s.pending &&& 1#2 }

/-- What a line's new state does to its pending bit (60_exceptions R325): with `Level` pending follows the line, with
`Edge` a 0-to-1 transition sets it and nothing else changes it. -/
def latchPending (policy : Latch) (old new pend : Bool) : Bool :=
  match policy with
  | .level => new
  | .edge => pend || (!old && new)

/-- `set_irq_line(line, state)` (60_exceptions R325): line 0 is INT, line 1 is NMI, any other line is ignored; any
non-zero state counts as 1. -/
def setIrqLine (line level : Nat) (s : State) : State :=
  let up := level != 0
  match line with
  | 0 => setPendingInt (latchPending s.latchInt s.lineInt up (pendingInt s)) { s with lineInt := up }
  | 1 => setPendingNmi (latchPending s.latchNmi s.lineNmi up (pendingNmi s)) { s with lineNmi := up }
  | _ => s

/-- The answer to the next handler call `e` (log 5): the script's first answer, or, when the script is used up, the free
value of `Config.device` for the history of calls that ends with `e`. -/
def nextAnswer (e : DevEvent) (s : State) : DevAnswer :=
  match s.devScript with
  | a :: _ => a
  | [] => Config.device (s.devLog ++ [e])

/-- The effect of an answer on the core (20_memory R57): its `set_irq_line` calls in order, and the latching of a reset
request (70_reset_and_hazards R371). -/
def applyAnswer (a : DevAnswer) (s : State) : State :=
  let s1 := a.irqs.foldl (fun t c => setIrqLine c.line c.level t) s
  { s1 with resetReq := s1.resetReq || a.reset }

/-- The state after the call `e` is noted and its answer taken off the script. -/
def noteCall (e : DevEvent) (s : State) : State :=
  { s with devScript := s.devScript.tail, devLog := s.devLog ++ [e] }

/-- One call of the device environment: the byte answered (93_implementation_defined I6, I7: any value) and the state
after it. -/
def callDevice (e : DevEvent) (s : State) : Byte × State :=
  let a := nextAnswer e s
  (a.value, applyAnswer a (noteCall e s))

end Sys2Proof.Machine
end

