-- ==== Sys2Proof/Machine/Memory.lean ====
section
/-! DEFINITION. Memory as a sorted list of cells in one canonical form: cell numbers strictly rising, and no entry equal
to what an unlisted cell reads as (`Config.unlistedCell`). -/

namespace Sys2Proof.Machine

open Sys2Proof

/-- The byte a cell holds; an unlisted cell holds `Config.unlistedCell` (log 2). -/
def Memory.get (m : Memory) (k : Nat) : Byte :=
  match m with
  | [] => Config.unlistedCell
  | (j, b) :: rest => if j = k then b else Memory.get rest k

/-- The memory without any entry for cell `k`. -/
def Memory.erase (m : Memory) (k : Nat) : Memory :=
  match m with
  | [] => []
  | (j, b) :: rest => if j = k then rest else (j, b) :: Memory.erase rest k

/-- The memory with the entry `(k, v)` put in its place. -/
def Memory.insert (m : Memory) (k : Nat) (v : Byte) : Memory :=
  match m with
  | [] => [(k, v)]
  | (j, b) :: rest =>
    if k < j then (k, v) :: (j, b) :: rest
    else if k = j then (k, v) :: rest
    else (j, b) :: Memory.insert rest k v

/-- The memory after cell `k` is set to `v`, in canonical form again. -/
def Memory.set (m : Memory) (k : Nat) (v : Byte) : Memory :=
  if v = Config.unlistedCell then Memory.erase m k else Memory.insert m k v

/-- Every cell number of the list is above `k`, and the numbers rise strictly, and no entry is redundant. -/
def Memory.wfAbove (k : Nat) (m : Memory) : Bool :=
  match m with
  | [] => true
  | (j, b) :: rest => decide (k < j) && b != Config.unlistedCell && Memory.wfAbove j rest

/-- The canonical form: cell numbers strictly rising, no entry equal to what an unlisted cell reads as. -/
def Memory.wf (m : Memory) : Bool :=
  match m with
  | [] => true
  | (j, b) :: rest => b != Config.unlistedCell && Memory.wfAbove j rest

/-- The cell number of offset `off` in store `store` (log 9). -/
def cellOf (store off : Nat) : Nat := store * 2 ^ 20 + off

end Sys2Proof.Machine
end

