-- ==== Sys2Proof/Machine/Router.lean ====
section
/-! DEFINITION. The Address Space Router (20_memory R50 to R61): descriptor well-formedness, selection, mirroring, the
byte access, and the wide accesses made of byte accesses. -/

namespace Sys2Proof.Machine

open Sys2Proof

/-- A descriptor is well formed (20_memory R52). -/
def regionWf (d : Region) : Bool :=
  decide (d.start ≤ d.last) && (d.start &&& d.mirror) == 0 && (d.last &&& d.mirror) == 0

/-- Every descriptor of MAP is well formed (20_memory R52). -/
def mapWf (map : List Region) : Bool := map.all regionWf

/-- The address with the ignored bits cleared (20_memory R54). -/
def foldAddr (d : Region) (a : Addr) : Addr := a &&& ~~~d.mirror

/-- The descriptor matches the address (20_memory R53). -/
def covers (d : Region) (a : Addr) : Bool := decide (d.start ≤ foldAddr d a) && decide (foldAddr d a ≤ d.last)

/-- `Sel(a)`: the first matching descriptor in list order (20_memory R53); none when the address is unmapped. -/
def select (map : List Region) (a : Addr) : Option Region := map.find? (fun d => covers d a)

/-- The offset passed to the store or handler (20_memory R54). -/
def regionOffset (d : Region) (a : Addr) : Nat := (foldAddr d a).toNat - d.start.toNat

/-- The store cell a read of the address returns, where the address selects RAM or ROM (20_memory R56). -/
def readCell (map : List Region) (a : Addr) : Option Nat :=
  match select map a with
  | some d =>
    match d.target with
    | .ram n => some (cellOf n (regionOffset d a))
    | .rom n => some (cellOf n (regionOffset d a))
    | .handler _ _ _ => none
  | none => none

/-- The store cell a write to the address changes, where the address selects RAM (20_memory R56). -/
def writeCell (map : List Region) (a : Addr) : Option Nat :=
  match select map a with
  | some d =>
    match d.target with
    | .ram n => some (cellOf n (regionOffset d a))
    | .rom _ => none
    | .handler _ _ _ => none
  | none => none

/-- The address selects a handler region (20_memory R57). -/
def isDevice (map : List Region) (a : Addr) : Bool :=
  match select map a with
  | some d =>
    match d.target with
    | .handler _ _ _ => true
    | .ram _ => false
    | .rom _ => false
  | none => false

/-- One byte read (20_memory R55, R56). -/
def read8 (a : Addr) (s : State) : Byte × State :=
  match select s.map a with
  | none => (Config.unmapFill, s)
  | some d =>
    match d.target with
    | .ram n => (Memory.get s.mem (cellOf n (regionOffset d a)), s)
    | .rom n => (Memory.get s.mem (cellOf n (regionOffset d a)), s)
    | .handler dev canRead _ =>
      if canRead then callDevice (.read dev (regionOffset d a)) s else (Config.unmapFill, s)

/-- One byte write (20_memory R55, R56). -/
def write8 (a : Addr) (v : Byte) (s : State) : State :=
  match select s.map a with
  | none => s
  | some d =>
    match d.target with
    | .ram n => { s with mem := Memory.set s.mem (cellOf n (regionOffset d a)) v }
    | .rom _ => s
    | .handler dev _ canWrite =>
      if canWrite then (callDevice (.write dev (regionOffset d a) v) s).2 else s

/-- What a byte read of an address outside every handler region returns (20_memory R55, R56): no state changes. For an
address in a handler region it answers `Config.unmapFill`, which says nothing. -/
def peek8 (a : Addr) (s : State) : Byte :=
  match readCell s.map a with
  | some k => Memory.get s.mem k
  | none => Config.unmapFill

/-- `MemRead(addr, n)` (20_memory R58): `n` byte reads at ascending addresses, reduced `mod 2^20`, little-endian. The
Router contract has `n` in 1, 2, 4. -/
def memRead (addr : Nat) (n : Nat) (s : State) : Nat × State :=
  match n with
  | 0 => (0, s)
  | n + 1 =>
    let b := read8 (BitVec.ofNat 20 addr) s
    let r := memRead (addr + 1) n b.2
    (b.1.toNat + 256 * r.1, r.2)

/-- `MemWrite(addr, n, v)` (20_memory R59): `n` byte writes at ascending addresses, reduced `mod 2^20`, low byte first;
bits of `v` above `8n` are ignored. -/
def memWrite (addr : Nat) (n : Nat) (v : Nat) (s : State) : State :=
  match n with
  | 0 => s
  | n + 1 => memWrite (addr + 1) n (v / 256) (write8 (BitVec.ofNat 20 addr) (BitVec.ofNat 8 v) s)

/-- `Phys(seg, off) = (seg * 16 + off) mod 2^20` (20_memory R62). -/
def phys (seg off : Word) : Addr := BitVec.ofNat 20 (seg.toNat * 16 + off.toNat)

/-- The value of segment register `j` (10_state R30). -/
def State.sreg (j : SReg) (s : State) : Word :=
  match j with
  | .es => s.segs.es
  | .cs => s.segs.cs
  | .ss => s.segs.ss
  | .ds => s.segs.ds

/-- `SegRead(j, off, 1)` (20_memory R63). -/
def segRead8 (j : SReg) (off : Word) (s : State) : Byte × State := read8 (phys (s.sreg j) off) s

/-- `SegRead(j, off, 2)` (20_memory R63): low byte first; the second offset wraps inside the segment. -/
def segRead16 (j : SReg) (off : Word) (s : State) : Word × State :=
  let b0 := read8 (phys (s.sreg j) off) s
  let b1 := read8 (phys (b0.2.sreg j) (off + 1)) b0.2
  (wordOf b0.1 b1.1, b1.2)

/-- `SegWrite(j, off, 1, v)` (20_memory R64). -/
def segWrite8 (j : SReg) (off : Word) (v : Byte) (s : State) : State := write8 (phys (s.sreg j) off) v s

/-- `SegWrite(j, off, 2, v)` (20_memory R64): low byte first; the second offset wraps inside the segment. -/
def segWrite16 (j : SReg) (off : Word) (v : Word) (s : State) : State :=
  let s1 := write8 (phys (s.sreg j) off) (loByte v) s
  write8 (phys (s1.sreg j) (off + 1)) (hiByte v) s1

end Sys2Proof.Machine
end

