-- ==== Sys2Proof/Machine/Operands.lean ====
section
/-! DEFINITION. Operand forms: 8- and 16-bit registers (10_state R20, R21), segment registers (R30), effective addresses
(30_encoding R96), and the ModRM `r/m` operand (R98). -/

namespace Sys2Proof.Machine

open Sys2Proof

/-- `x[i]` (10_state R20). -/
def State.reg16 (r : Reg16) (s : State) : Word :=
  match r with
  | .ax => s.regs.ax
  | .cx => s.regs.cx
  | .dx => s.regs.dx
  | .bx => s.regs.bx
  | .sp => s.regs.sp
  | .bp => s.regs.bp
  | .si => s.regs.si
  | .di => s.regs.di

/-- `x[i] <- v` (10_state R20). -/
def setReg16 (r : Reg16) (v : Word) (s : State) : State :=
  match r with
  | .ax => { s with regs := { s.regs with ax := v } }
  | .cx => { s with regs := { s.regs with cx := v } }
  | .dx => { s with regs := { s.regs with dx := v } }
  | .bx => { s with regs := { s.regs with bx := v } }
  | .sp => { s with regs := { s.regs with sp := v } }
  | .bp => { s with regs := { s.regs with bp := v } }
  | .si => { s with regs := { s.regs with si := v } }
  | .di => { s with regs := { s.regs with di := v } }

/-- The 16-bit register an 8-bit register is half of (10_state R21). -/
def wholeOf : Reg8 → Reg16
  | .al => .ax | .cl => .cx | .dl => .dx | .bl => .bx | .ah => .ax | .ch => .cx | .dh => .dx | .bh => .bx

/-- The 8-bit register is the upper half (10_state R21). -/
def isHigh : Reg8 → Bool
  | .al => false | .cl => false | .dl => false | .bl => false | .ah => true | .ch => true | .dh => true | .bh => true

/-- `x8[i]` (10_state R21). -/
def State.reg8 (r : Reg8) (s : State) : Byte :=
  if isHigh r then hiByte (s.reg16 (wholeOf r)) else loByte (s.reg16 (wholeOf r))

/-- `x8[i] <- v`: the other half keeps its value (10_state R21). -/
def setReg8 (r : Reg8) (v : Byte) (s : State) : State :=
  let old := s.reg16 (wholeOf r)
  setReg16 (wholeOf r) (if isHigh r then wordOf (loByte old) v else wordOf v (hiByte old)) s

/-- `s[j] <- v` (10_state R30). -/
def setSreg (j : SReg) (v : Word) (s : State) : State :=
  match j with
  | .es => { s with segs := { s.segs with es := v } }
  | .cs => { s with segs := { s.segs with cs := v } }
  | .ss => { s with segs := { s.segs with ss := v } }
  | .ds => { s with segs := { s.segs with ds := v } }

/-- The base sum `B` (30_encoding R96), `mod 2^16`. -/
def baseSum (b : Base) (s : State) : Word :=
  match b with
  | .bxsi => s.regs.bx + s.regs.si
  | .bxdi => s.regs.bx + s.regs.di
  | .bpsi => s.regs.bp + s.regs.si
  | .bpdi => s.regs.bp + s.regs.di
  | .si => s.regs.si
  | .di => s.regs.di
  | .bp => s.regs.bp
  | .bx => s.regs.bx

/-- The default segment of a base (30_encoding R96, 20_memory R66). -/
def baseSeg : Base → SReg
  | .bxsi => .ds
  | .bxdi => .ds
  | .bpsi => .ss
  | .bpdi => .ss
  | .si => .ds
  | .di => .ds
  | .bp => .ss
  | .bx => .ds

/-- `EA.off` (30_encoding R96, R97). -/
def eaOff (m : MemRef) (s : State) : Word :=
  match m with
  | .plain b => baseSum b s
  | .direct d => d
  | .disp8 b d => baseSum b s + sext16 d
  | .disp16 b d => baseSum b s + d

/-- The default segment of a memory operand (30_encoding R96). -/
def defaultSeg : MemRef → SReg
  | .plain b => baseSeg b
  | .direct _ => .ds
  | .disp8 b _ => baseSeg b
  | .disp16 b _ => baseSeg b

/-- The segment of an overridable access whose default is `j` (20_memory R66, 30_encoding R92). -/
def overridden (j : SReg) (s : State) : SReg := s.segov.getD j

/-- `EA.seg` (30_encoding R96). -/
def eaSeg (m : MemRef) (s : State) : SReg := overridden (defaultSeg m) s

/-- Where an 8-bit `r/m` operand lies: `EA` is computed once, from the registers at the start of the instruction
(30_encoding R96). -/
inductive Place8 where
  | reg (r : Reg8)
  | mem (seg : SReg) (off : Word)
deriving DecidableEq, Repr

/-- Where a 16-bit `r/m` operand lies (30_encoding R96). -/
inductive Place16 where
  | reg (r : Reg16)
  | mem (seg : SReg) (off : Word)
deriving DecidableEq, Repr

/-- The place of an `Eb` operand (30_encoding R96). -/
def place8 (rm : Rm8) (s : State) : Place8 :=
  match rm with
  | .reg r => .reg r
  | .mem m => .mem (eaSeg m s) (eaOff m s)

/-- The place of an `Ew` operand (30_encoding R96). -/
def place16 (rm : Rm16) (s : State) : Place16 :=
  match rm with
  | .reg r => .reg r
  | .mem m => .mem (eaSeg m s) (eaOff m s)

/-- `RM_read(8)` (30_encoding R98). -/
def readPlace8 (p : Place8) (s : State) : Byte × State :=
  match p with
  | .reg r => (s.reg8 r, s)
  | .mem j off => segRead8 j off s

/-- `RM_read(16)` (30_encoding R98). -/
def readPlace16 (p : Place16) (s : State) : Word × State :=
  match p with
  | .reg r => (s.reg16 r, s)
  | .mem j off => segRead16 j off s

/-- `RM_write(8, v)` (30_encoding R98). -/
def writePlace8 (p : Place8) (v : Byte) (s : State) : State :=
  match p with
  | .reg r => setReg8 r v s
  | .mem j off => segWrite8 j off v s

/-- `RM_write(16, v)` (30_encoding R98). -/
def writePlace16 (p : Place16) (v : Word) (s : State) : State :=
  match p with
  | .reg r => setReg16 r v s
  | .mem j off => segWrite16 j off v s

/-- The far pointer at `EA`: offset word at `EA.off`, then segment word at `EA.off + 2` (30_encoding R98). -/
def readFar (m : MemRef) (s : State) : (Word × Word) × State :=
  let j := eaSeg m s
  let off := eaOff m s
  let o := segRead16 j off s
  let g := segRead16 j (off + 2) o.2
  ((o.1, g.1), g.2)

end Sys2Proof.Machine
end

