-- ==== Sys2Proof/Machine/Ops.lean ====
section
/-! DEFINITION. The shared operations of the instructions: the outcome type of a meaning, FLAGS updates, the stack
(40_data_transfer R146, R147), taking a trap and returning from one (60_exceptions R321, 45_control_transfer R282), the
reset operation (70_reset_and_hazards R370), and the operand patterns that several instructions share. -/

namespace Sys2Proof.Machine

open Sys2Proof

/-- What a meaning answers. -/
abbrev Result := Host.Outcome State Fault Refusal

/-- FLAGS <- f. -/
def setFlags (f : Word) (s : State) : State := { s with flags := f }

/-- `FLAGS.X <- b`. -/
def setFlag (x : Flag) (b : Bool) (s : State) : State := setFlags (putFlag x b s.flags) s

/-- pc <- v (45_control_transfer). -/
def setPc (v : Word) (s : State) : State := { s with pc := v }

/-! ## Stack -/

/-- `Push(v)` (40_data_transfer R146). -/
def push (v : Word) (s : State) : State :=
  let s1 := setReg16 .sp (s.regs.sp - 2) s
  segWrite16 .ss s1.regs.sp v s1

/-- PUSH SP: the decremented SP is stored (40_data_transfer R148, R152). -/
def pushSp (s : State) : State :=
  let s1 := setReg16 .sp (s.regs.sp - 2) s
  segWrite16 .ss s1.regs.sp s1.regs.sp s1

/-- `Pop()` (40_data_transfer R147). -/
def pop (s : State) : Word × State :=
  let v := segRead16 .ss s.regs.sp s
  (v.1, setReg16 .sp (v.2.regs.sp + 2) v.2)

/-! ## Traps, return, reset -/

/-- `Trap(n, ret)` (60_exceptions R321): the entry shared by INT, INT3, INTO, the illegal opcode and both interrupt
lines. FLAGS, CS and the return offset are pushed, IF and TF cleared, pc and CS loaded from the vector-table entry. -/
def trap (n : Byte) (ret : Word) (s : State) : State :=
  let s1 := push s.flags s
  let s2 := setFlag .TF false (setFlag .IF false s1)
  let s3 := push s2.segs.cs s2
  let s4 := push ret s3
  let off := memRead (Config.ivtBase + 4 * n.toNat) 2 s4
  let seg := memRead (Config.ivtBase + 4 * n.toNat + 2) 2 off.2
  setSreg .cs (BitVec.ofNat 16 seg.1) (setPc (BitVec.ofNat 16 off.1) seg.2)

/-- The return from a trap or interrupt (45_control_transfer R282). -/
def trapReturn (s : State) : State :=
  let off := pop s
  let seg := pop off.2
  let v := pop seg.2
  setFlags (wholeFlags v.1) (setSreg .cs seg.1 (setPc off.1 v.2))

/-- The vector of the illegal-opcode trap (60_exceptions R320, R322). -/
def illegalVector : Byte := 6#8

/-- `raise IllegalOpcode` (60_exceptions R322): `pc` back to the first byte, then the trap. -/
def illegalOpcode (pcStart : Word) (s : State) : State := trap illegalVector pcStart (setPc pcStart s)

/-- The reset operation (70_reset_and_hazards R370): core state only; memory, MAP, LATCH, device state and the records
of past events stay (R372). -/
def applyReset (s : State) : State :=
  { s with
    regs := Regs.reset
    segs := Segs.reset
    pc := Config.resetPC
    flags := flagsReset
    vector := 0
    pending := 0
    halted := false
    noint := false
    lineInt := false
    lineNmi := false
    resetReq := false
    segov := none
    rep := none }

/-! ## Two-operand patterns (41_arithmetic R173)

In each, both operands are read before anything is written (R173). -/

/-- `Eb` destination, second operand `b` (41_arithmetic R173, forms `Eb,Gb` and `Eb,Ib`). -/
def aluPlace8 (op : AluOp) (p : Place8) (b : Byte) (s : State) : State :=
  let a := readPlace8 p s
  let r := aluOp op a.1 b a.2.flags
  let s1 := setFlags r.2 a.2
  if aluWrites op then writePlace8 p r.1 s1 else s1

/-- `Ew` destination, second operand `b` (41_arithmetic R173, forms `Ew,Gw`, `Ew,Iw`, `Ew,Ibs`). -/
def aluPlace16 (op : AluOp) (p : Place16) (b : Word) (s : State) : State :=
  let a := readPlace16 p s
  let r := aluOp op a.1 b a.2.flags
  let s1 := setFlags r.2 a.2
  if aluWrites op then writePlace16 p r.1 s1 else s1

/-- Register destination, `Eb` second operand (41_arithmetic R173, form `Gb,Eb`). -/
def aluReg8 (op : AluOp) (reg : Reg8) (p : Place8) (s : State) : State :=
  let b := readPlace8 p s
  let r := aluOp op (b.2.reg8 reg) b.1 b.2.flags
  let s1 := setFlags r.2 b.2
  if aluWrites op then setReg8 reg r.1 s1 else s1

/-- Register destination, `Ew` second operand (41_arithmetic R173, form `Gw,Ew`). -/
def aluReg16 (op : AluOp) (reg : Reg16) (p : Place16) (s : State) : State :=
  let b := readPlace16 p s
  let r := aluOp op (b.2.reg16 reg) b.1 b.2.flags
  let s1 := setFlags r.2 b.2
  if aluWrites op then setReg16 reg r.1 s1 else s1

/-- One `Eb` operand read, changed with its flags, and written back (INC, DEC, NEG: 41_arithmetic R181 to R183). -/
def unaryPlace8 (f : Byte → Word → Byte × Word) (p : Place8) (s : State) : State :=
  let a := readPlace8 p s
  let r := f a.1 a.2.flags
  writePlace8 p r.1 (setFlags r.2 a.2)

/-- One `Ew` operand read, changed with its flags, and written back (INC, DEC, NEG: 41_arithmetic R181 to R183). -/
def unaryPlace16 (f : Word → Word → Word × Word) (p : Place16) (s : State) : State :=
  let a := readPlace16 p s
  let r := f a.1 a.2.flags
  writePlace16 p r.1 (setFlags r.2 a.2)

/-- TEST of an `Eb` operand with `b` (42_logical R204). -/
def testPlace8 (p : Place8) (b : Byte) (s : State) : State :=
  let a := readPlace8 p s
  setFlags (logicFlags (a.1 &&& b) a.2.flags) a.2

/-- TEST of an `Ew` operand with `b` (42_logical R204). -/
def testPlace16 (p : Place16) (b : Word) (s : State) : State :=
  let a := readPlace16 p s
  setFlags (logicFlags (a.1 &&& b) a.2.flags) a.2

/-- Shift or rotate of an `Eb` operand by a raw count (43_shift_rotate R220): with an effective count of 0 the operand
is read and nothing is written. -/
def shiftPlace8 (op : ShiftOp) (raw : Byte) (p : Place8) (s : State) : State :=
  let a := readPlace8 p s
  match shiftOp op raw a.1 a.2.flags with
  | none => a.2
  | some r => writePlace8 p r.1 (setFlags r.2 a.2)

/-- Shift or rotate of an `Ew` operand by a raw count (43_shift_rotate R220). -/
def shiftPlace16 (op : ShiftOp) (raw : Byte) (p : Place16) (s : State) : State :=
  let a := readPlace16 p s
  match shiftOp op raw a.1 a.2.flags with
  | none => a.2
  | some r => writePlace16 p r.1 (setFlags r.2 a.2)

/-! ## Relative transfers (45_control_transfer R260) -/

/-- Taken: `pc <- pc_next + d mod 2^16`. -/
def jumpRel (d : Word) (s : State) : State := setPc (s.pc + d) s

/-- Taken only when `taken` holds; otherwise `pc` stays `pc_next`. -/
def jumpIf (taken : Bool) (d : Word) (s : State) : State := if taken then jumpRel d s else s

/-- The decrement of LOOP, LOOPE and LOOPNE: CX - 1, no flag (45_control_transfer R262). -/
def decCx (s : State) : State := setReg16 .cx (s.regs.cx - 1) s

/-! ## String elements (44_string R240, R241) -/

/-- `delta` for an element of `n` bytes (44_string R240). -/
def stringDelta (n : Word) (f : Word) : Word := if getFlag .DF f then 0 - n else n

/-- SI <- SI + delta (44_string R240). -/
def advanceSi (delta : Word) (s : State) : State := setReg16 .si (s.regs.si + delta) s

/-- DI <- DI + delta (44_string R240). -/
def advanceDi (delta : Word) (s : State) : State := setReg16 .di (s.regs.di + delta) s

/-- The loop of 44_string R241: `one` is the single element, `stop` the test after the decrement of CX. `fuel` bounds
the passes; with the CX of the entry it never runs out, since no element writes CX (log 13). -/
def repeatLoop (one : State → State) (stop : State → Bool) (fuel : Nat) (s : State) : State :=
  match fuel with
  | 0 => s
  | fuel + 1 =>
    if s.regs.cx = 0 then s
    else
      let s1 := decCx (one s)
      if stop s1 then s1 else repeatLoop one stop fuel s1

/-- The ZF test that ends a repeated CMPS or SCAS (44_string R241). -/
def zfStops (r : Rep) (s : State) : Bool :=
  match r with
  | .e => !getFlag .ZF s.flags
  | .ne => getFlag .ZF s.flags

/-- MOVS, STOS, LODS with or without a repeat prefix (44_string R241): both prefixes mean plain repeat. -/
def repeatPlain (one : State → State) (s : State) : State :=
  match s.rep with
  | none => one s
  | some _ => repeatLoop one (fun _ => false) s.regs.cx.toNat s

/-- CMPS, SCAS with or without a repeat prefix (44_string R241). -/
def repeatCompare (one : State → State) (s : State) : State :=
  match s.rep with
  | none => one s
  | some r => repeatLoop one (zfStops r) s.regs.cx.toNat s

end Sys2Proof.Machine
end

