-- ==== Sys2Proof/Machine/Arithmetic.lean ====
section
/-! DEFINITION. The add and subtract family (41_arithmetic R174 to R183). -/

namespace Sys2Proof.Machine

open Sys2Proof

/-- ADD Eb,Gb (41_arithmetic R174). -/
def execAddEbGb (rm : Rm8) (reg : Reg8) (s : State) : Result :=
  .next (aluPlace8 .add (place8 rm s) (s.reg8 reg) s)

/-- ADD Ew,Gw (41_arithmetic R174). -/
def execAddEwGw (rm : Rm16) (reg : Reg16) (s : State) : Result :=
  .next (aluPlace16 .add (place16 rm s) (s.reg16 reg) s)

/-- ADD Gb,Eb (41_arithmetic R174). -/
def execAddGbEb (reg : Reg8) (rm : Rm8) (s : State) : Result :=
  .next (aluReg8 .add reg (place8 rm s) s)

/-- ADD Gw,Ew (41_arithmetic R174). -/
def execAddGwEw (reg : Reg16) (rm : Rm16) (s : State) : Result :=
  .next (aluReg16 .add reg (place16 rm s) s)

/-- ADD AL,Ib (41_arithmetic R174). -/
def execAddALIb (imm : Byte) (s : State) : Result :=
  .next (aluPlace8 .add (.reg .al) imm s)

/-- ADD AX,Iw (41_arithmetic R174). -/
def execAddAXIw (imm : Word) (s : State) : Result :=
  .next (aluPlace16 .add (.reg .ax) imm s)

/-- ADC Eb,Gb (41_arithmetic R175). -/
def execAdcEbGb (rm : Rm8) (reg : Reg8) (s : State) : Result :=
  .next (aluPlace8 .adc (place8 rm s) (s.reg8 reg) s)

/-- ADC Ew,Gw (41_arithmetic R175). -/
def execAdcEwGw (rm : Rm16) (reg : Reg16) (s : State) : Result :=
  .next (aluPlace16 .adc (place16 rm s) (s.reg16 reg) s)

/-- ADC Gb,Eb (41_arithmetic R175). -/
def execAdcGbEb (reg : Reg8) (rm : Rm8) (s : State) : Result :=
  .next (aluReg8 .adc reg (place8 rm s) s)

/-- ADC Gw,Ew (41_arithmetic R175). -/
def execAdcGwEw (reg : Reg16) (rm : Rm16) (s : State) : Result :=
  .next (aluReg16 .adc reg (place16 rm s) s)

/-- ADC AL,Ib (41_arithmetic R175). -/
def execAdcALIb (imm : Byte) (s : State) : Result :=
  .next (aluPlace8 .adc (.reg .al) imm s)

/-- ADC AX,Iw (41_arithmetic R175). -/
def execAdcAXIw (imm : Word) (s : State) : Result :=
  .next (aluPlace16 .adc (.reg .ax) imm s)

/-- SBB Eb,Gb (41_arithmetic R177). -/
def execSbbEbGb (rm : Rm8) (reg : Reg8) (s : State) : Result :=
  .next (aluPlace8 .sbb (place8 rm s) (s.reg8 reg) s)

/-- SBB Ew,Gw (41_arithmetic R177). -/
def execSbbEwGw (rm : Rm16) (reg : Reg16) (s : State) : Result :=
  .next (aluPlace16 .sbb (place16 rm s) (s.reg16 reg) s)

/-- SBB Gb,Eb (41_arithmetic R177). -/
def execSbbGbEb (reg : Reg8) (rm : Rm8) (s : State) : Result :=
  .next (aluReg8 .sbb reg (place8 rm s) s)

/-- SBB Gw,Ew (41_arithmetic R177). -/
def execSbbGwEw (reg : Reg16) (rm : Rm16) (s : State) : Result :=
  .next (aluReg16 .sbb reg (place16 rm s) s)

/-- SBB AL,Ib (41_arithmetic R177). -/
def execSbbALIb (imm : Byte) (s : State) : Result :=
  .next (aluPlace8 .sbb (.reg .al) imm s)

/-- SBB AX,Iw (41_arithmetic R177). -/
def execSbbAXIw (imm : Word) (s : State) : Result :=
  .next (aluPlace16 .sbb (.reg .ax) imm s)

/-- SUB Eb,Gb (41_arithmetic R176). -/
def execSubEbGb (rm : Rm8) (reg : Reg8) (s : State) : Result :=
  .next (aluPlace8 .sub (place8 rm s) (s.reg8 reg) s)

/-- SUB Ew,Gw (41_arithmetic R176). -/
def execSubEwGw (rm : Rm16) (reg : Reg16) (s : State) : Result :=
  .next (aluPlace16 .sub (place16 rm s) (s.reg16 reg) s)

/-- SUB Gb,Eb (41_arithmetic R176). -/
def execSubGbEb (reg : Reg8) (rm : Rm8) (s : State) : Result :=
  .next (aluReg8 .sub reg (place8 rm s) s)

/-- SUB Gw,Ew (41_arithmetic R176). -/
def execSubGwEw (reg : Reg16) (rm : Rm16) (s : State) : Result :=
  .next (aluReg16 .sub reg (place16 rm s) s)

/-- SUB AL,Ib (41_arithmetic R176). -/
def execSubALIb (imm : Byte) (s : State) : Result :=
  .next (aluPlace8 .sub (.reg .al) imm s)

/-- SUB AX,Iw (41_arithmetic R176). -/
def execSubAXIw (imm : Word) (s : State) : Result :=
  .next (aluPlace16 .sub (.reg .ax) imm s)

/-- CMP Eb,Gb (41_arithmetic R178). -/
def execCmpEbGb (rm : Rm8) (reg : Reg8) (s : State) : Result :=
  .next (aluPlace8 .cmp (place8 rm s) (s.reg8 reg) s)

/-- CMP Ew,Gw (41_arithmetic R178). -/
def execCmpEwGw (rm : Rm16) (reg : Reg16) (s : State) : Result :=
  .next (aluPlace16 .cmp (place16 rm s) (s.reg16 reg) s)

/-- CMP Gb,Eb (41_arithmetic R178). -/
def execCmpGbEb (reg : Reg8) (rm : Rm8) (s : State) : Result :=
  .next (aluReg8 .cmp reg (place8 rm s) s)

/-- CMP Gw,Ew (41_arithmetic R178). -/
def execCmpGwEw (reg : Reg16) (rm : Rm16) (s : State) : Result :=
  .next (aluReg16 .cmp reg (place16 rm s) s)

/-- CMP AL,Ib (41_arithmetic R178). -/
def execCmpALIb (imm : Byte) (s : State) : Result :=
  .next (aluPlace8 .cmp (.reg .al) imm s)

/-- CMP AX,Iw (41_arithmetic R178). -/
def execCmpAXIw (imm : Word) (s : State) : Result :=
  .next (aluPlace16 .cmp (.reg .ax) imm s)

/-- INC r16 (41_arithmetic R179). -/
def execIncR16 (reg : Reg16) (s : State) : Result :=
  .next (unaryPlace16 incOp (.reg reg) s)

/-- DEC r16 (41_arithmetic R180). -/
def execDecR16 (reg : Reg16) (s : State) : Result :=
  .next (unaryPlace16 decOp (.reg reg) s)

/-- ADD Eb,Ib (41_arithmetic R174). -/
def execAddEbIb (rm : Rm8) (imm : Byte) (s : State) : Result :=
  .next (aluPlace8 .add (place8 rm s) imm s)

/-- ADD Ew,Iw (41_arithmetic R174). -/
def execAddEwIw (rm : Rm16) (imm : Word) (s : State) : Result :=
  .next (aluPlace16 .add (place16 rm s) imm s)

/-- ADD Ew,Ibs (41_arithmetic R174). -/
def execAddEwIbs (rm : Rm16) (imm : Byte) (s : State) : Result :=
  .next (aluPlace16 .add (place16 rm s) (sext16 imm) s)

/-- ADC Eb,Ib (41_arithmetic R175). -/
def execAdcEbIb (rm : Rm8) (imm : Byte) (s : State) : Result :=
  .next (aluPlace8 .adc (place8 rm s) imm s)

/-- ADC Ew,Iw (41_arithmetic R175). -/
def execAdcEwIw (rm : Rm16) (imm : Word) (s : State) : Result :=
  .next (aluPlace16 .adc (place16 rm s) imm s)

/-- ADC Ew,Ibs (41_arithmetic R175). -/
def execAdcEwIbs (rm : Rm16) (imm : Byte) (s : State) : Result :=
  .next (aluPlace16 .adc (place16 rm s) (sext16 imm) s)

/-- SBB Eb,Ib (41_arithmetic R177). -/
def execSbbEbIb (rm : Rm8) (imm : Byte) (s : State) : Result :=
  .next (aluPlace8 .sbb (place8 rm s) imm s)

/-- SBB Ew,Iw (41_arithmetic R177). -/
def execSbbEwIw (rm : Rm16) (imm : Word) (s : State) : Result :=
  .next (aluPlace16 .sbb (place16 rm s) imm s)

/-- SBB Ew,Ibs (41_arithmetic R177). -/
def execSbbEwIbs (rm : Rm16) (imm : Byte) (s : State) : Result :=
  .next (aluPlace16 .sbb (place16 rm s) (sext16 imm) s)

/-- SUB Eb,Ib (41_arithmetic R176). -/
def execSubEbIb (rm : Rm8) (imm : Byte) (s : State) : Result :=
  .next (aluPlace8 .sub (place8 rm s) imm s)

/-- SUB Ew,Iw (41_arithmetic R176). -/
def execSubEwIw (rm : Rm16) (imm : Word) (s : State) : Result :=
  .next (aluPlace16 .sub (place16 rm s) imm s)

/-- SUB Ew,Ibs (41_arithmetic R176). -/
def execSubEwIbs (rm : Rm16) (imm : Byte) (s : State) : Result :=
  .next (aluPlace16 .sub (place16 rm s) (sext16 imm) s)

/-- CMP Eb,Ib (41_arithmetic R178). -/
def execCmpEbIb (rm : Rm8) (imm : Byte) (s : State) : Result :=
  .next (aluPlace8 .cmp (place8 rm s) imm s)

/-- CMP Ew,Iw (41_arithmetic R178). -/
def execCmpEwIw (rm : Rm16) (imm : Word) (s : State) : Result :=
  .next (aluPlace16 .cmp (place16 rm s) imm s)

/-- CMP Ew,Ibs (41_arithmetic R178). -/
def execCmpEwIbs (rm : Rm16) (imm : Byte) (s : State) : Result :=
  .next (aluPlace16 .cmp (place16 rm s) (sext16 imm) s)

/-- NEG Eb (41_arithmetic R183). -/
def execNegEb (rm : Rm8) (s : State) : Result :=
  .next (unaryPlace8 negOp (place8 rm s) s)

/-- NEG Ew (41_arithmetic R183). -/
def execNegEw (rm : Rm16) (s : State) : Result :=
  .next (unaryPlace16 negOp (place16 rm s) s)

/-- INC Eb (41_arithmetic R181). -/
def execIncEb (rm : Rm8) (s : State) : Result :=
  .next (unaryPlace8 incOp (place8 rm s) s)

/-- DEC Eb (41_arithmetic R182). -/
def execDecEb (rm : Rm8) (s : State) : Result :=
  .next (unaryPlace8 decOp (place8 rm s) s)

/-- INC Ew (41_arithmetic R181). -/
def execIncEw (rm : Rm16) (s : State) : Result :=
  .next (unaryPlace16 incOp (place16 rm s) s)

/-- DEC Ew (41_arithmetic R182). -/
def execDecEw (rm : Rm16) (s : State) : Result :=
  .next (unaryPlace16 decOp (place16 rm s) s)

end Sys2Proof.Machine
end

