-- ==== Sys2Proof/Machine/ControlTransfer.lean ====
section
/-! DEFINITION. The control transfer instructions (45_control_transfer R260 to R282). -/

namespace Sys2Proof.Machine

open Sys2Proof

/-- pc <- the value read or popped (45_control_transfer R269, R275). -/
def jumpNear (v : Word × State) : State := setPc v.1 v.2

/-- pc and CS <- a far pointer (45_control_transfer R268). -/
def jumpFar (off seg : Word) (s : State) : State := setSreg .cs seg (setPc off s)

/-- pc and CS <- the far pointer read (45_control_transfer R270). -/
def jumpPointer (v : (Word × Word) × State) : State := jumpFar v.1.1 v.1.2 v.2

/-- Push `pc_next`, then jump to the target read before (45_control_transfer R273). -/
def callNear (v : Word × State) : State := setPc v.1 (push v.2.pc v.2)

/-- Push CS, push `pc_next`, then jump far (45_control_transfer R272). -/
def callFarTo (off seg : Word) (s : State) : State := jumpFar off seg (push s.pc (push s.segs.cs s))

/-- Far call to the pointer read before the pushes (45_control_transfer R274). -/
def callPointer (v : (Word × Word) × State) : State := callFarTo v.1.1 v.1.2 v.2

/-- Pop the offset, then the segment (45_control_transfer R277). -/
def returnFar (s : State) : State :=
  let off := pop s
  let seg := pop off.2
  jumpFar off.1 seg.1 seg.2

/-- SP <- SP + `cnt` after a return (45_control_transfer R276, R278). -/
def releaseStack (cnt : Word) (s : State) : State := setReg16 .sp (s.regs.sp + cnt) s

/-- JO rel8 (45_control_transfer R261). -/
def execJo (rel : Byte) (s : State) : Result :=
  .next (jumpIf (condHolds .o s.flags) (sext16 rel) s)

/-- JNO rel8 (45_control_transfer R261). -/
def execJno (rel : Byte) (s : State) : Result :=
  .next (jumpIf (condHolds .no s.flags) (sext16 rel) s)

/-- JB rel8 (45_control_transfer R261). -/
def execJb (rel : Byte) (s : State) : Result :=
  .next (jumpIf (condHolds .b s.flags) (sext16 rel) s)

/-- JAE rel8 (45_control_transfer R261). -/
def execJae (rel : Byte) (s : State) : Result :=
  .next (jumpIf (condHolds .ae s.flags) (sext16 rel) s)

/-- JE rel8 (45_control_transfer R261). -/
def execJe (rel : Byte) (s : State) : Result :=
  .next (jumpIf (condHolds .e s.flags) (sext16 rel) s)

/-- JNE rel8 (45_control_transfer R261). -/
def execJne (rel : Byte) (s : State) : Result :=
  .next (jumpIf (condHolds .ne s.flags) (sext16 rel) s)

/-- JBE rel8 (45_control_transfer R261). -/
def execJbe (rel : Byte) (s : State) : Result :=
  .next (jumpIf (condHolds .be s.flags) (sext16 rel) s)

/-- JA rel8 (45_control_transfer R261). -/
def execJa (rel : Byte) (s : State) : Result :=
  .next (jumpIf (condHolds .a s.flags) (sext16 rel) s)

/-- JS rel8 (45_control_transfer R261). -/
def execJs (rel : Byte) (s : State) : Result :=
  .next (jumpIf (condHolds .s s.flags) (sext16 rel) s)

/-- JNS rel8 (45_control_transfer R261). -/
def execJns (rel : Byte) (s : State) : Result :=
  .next (jumpIf (condHolds .ns s.flags) (sext16 rel) s)

/-- JP rel8 (45_control_transfer R261). -/
def execJp (rel : Byte) (s : State) : Result :=
  .next (jumpIf (condHolds .p s.flags) (sext16 rel) s)

/-- JNP rel8 (45_control_transfer R261). -/
def execJnp (rel : Byte) (s : State) : Result :=
  .next (jumpIf (condHolds .np s.flags) (sext16 rel) s)

/-- JL rel8 (45_control_transfer R261). -/
def execJl (rel : Byte) (s : State) : Result :=
  .next (jumpIf (condHolds .l s.flags) (sext16 rel) s)

/-- JGE rel8 (45_control_transfer R261). -/
def execJge (rel : Byte) (s : State) : Result :=
  .next (jumpIf (condHolds .ge s.flags) (sext16 rel) s)

/-- JLE rel8 (45_control_transfer R261). -/
def execJle (rel : Byte) (s : State) : Result :=
  .next (jumpIf (condHolds .le s.flags) (sext16 rel) s)

/-- JG rel8 (45_control_transfer R261). -/
def execJg (rel : Byte) (s : State) : Result :=
  .next (jumpIf (condHolds .g s.flags) (sext16 rel) s)

/-- CALL far ptr16:16 (45_control_transfer R272). -/
def execCallFar (off : Word) (seg : Word) (s : State) : Result :=
  .next (callFarTo off seg s)

/-- RET pop16 (45_control_transfer R276). -/
def execRetPop (cnt : Word) (s : State) : Result :=
  .next (releaseStack cnt (jumpNear (pop s)))

/-- RET (45_control_transfer R275). -/
def execRet (s : State) : Result :=
  .next (jumpNear (pop s))

/-- RETF pop16 (45_control_transfer R278). -/
def execRetfPop (cnt : Word) (s : State) : Result :=
  .next (releaseStack cnt (returnFar s))

/-- RETF (45_control_transfer R277). -/
def execRetf (s : State) : Result :=
  .next (returnFar s)

/-- INT3 (45_control_transfer R280). -/
def execInt3 (s : State) : Result :=
  .next (trap 3 s.pc s)

/-- INT vec8 (45_control_transfer R279). -/
def execInt (vec : Byte) (s : State) : Result :=
  .next (trap vec s.pc s)

/-- INTO (45_control_transfer R281). -/
def execInto (s : State) : Result :=
  .next (if getFlag .OF s.flags then trap 4 s.pc s else s)

/-- IRET (45_control_transfer R282). -/
def execIret (s : State) : Result :=
  .next (trapReturn s)

/-- LOOPNE rel8 (45_control_transfer R264). -/
def execLoopne (rel : Byte) (s : State) : Result :=
  .next (jumpIf (s.regs.cx - 1 != 0 && !getFlag .ZF s.flags) (sext16 rel) (decCx s))

/-- LOOPE rel8 (45_control_transfer R263). -/
def execLoope (rel : Byte) (s : State) : Result :=
  .next (jumpIf (s.regs.cx - 1 != 0 && getFlag .ZF s.flags) (sext16 rel) (decCx s))

/-- LOOP rel8 (45_control_transfer R262). -/
def execLoop (rel : Byte) (s : State) : Result :=
  .next (jumpIf (s.regs.cx - 1 != 0) (sext16 rel) (decCx s))

/-- JCXZ rel8 (45_control_transfer R265). -/
def execJcxz (rel : Byte) (s : State) : Result :=
  .next (jumpIf (s.regs.cx == 0) (sext16 rel) s)

/-- CALL rel16 (45_control_transfer R271). -/
def execCallRel16 (rel : Word) (s : State) : Result :=
  .next (jumpRel rel (push s.pc s))

/-- JMP rel16 (45_control_transfer R267). -/
def execJmpRel16 (rel : Word) (s : State) : Result :=
  .next (jumpRel rel s)

/-- JMP far ptr16:16 (45_control_transfer R268). -/
def execJmpFar (off : Word) (seg : Word) (s : State) : Result :=
  .next (jumpFar off seg s)

/-- JMP rel8 (45_control_transfer R266). -/
def execJmpRel8 (rel : Byte) (s : State) : Result :=
  .next (jumpRel (sext16 rel) s)

/-- CALL Ew (near indirect) (45_control_transfer R273). -/
def execCallEw (rm : Rm16) (s : State) : Result :=
  .next (callNear (readPlace16 (place16 rm s) s))

/-- CALL far M (m16:16) (45_control_transfer R274). -/
def execCallFarM (mem : MemRef) (s : State) : Result :=
  .next (callPointer (readFar mem s))

/-- JMP Ew (near indirect) (45_control_transfer R269). -/
def execJmpEw (rm : Rm16) (s : State) : Result :=
  .next (jumpNear (readPlace16 (place16 rm s) s))

/-- JMP far M (m16:16) (45_control_transfer R270). -/
def execJmpFarM (mem : MemRef) (s : State) : Result :=
  .next (jumpPointer (readFar mem s))

end Sys2Proof.Machine
end

