-- ==== Sys2Proof/Machine/DataTransfer.lean ====
section
/-! DEFINITION. The data transfer instructions (40_data_transfer R130 to R159). -/

namespace Sys2Proof.Machine

open Sys2Proof

/-- The destination register takes the value read (40_data_transfer R131, R134, R145). -/
def loadReg8 (reg : Reg8) (v : Byte × State) : State := setReg8 reg v.1 v.2

/-- The destination register takes the value read or popped (40_data_transfer R131, R134, R149). -/
def loadReg16 (reg : Reg16) (v : Word × State) : State := setReg16 reg v.1 v.2

/-- A segment register takes the value read or popped, and the interrupt window opens (40_data_transfer R133, R151). -/
def loadSreg (j : SReg) (v : Word × State) : State := { setSreg j v.1 v.2 with noint := true }

/-- LDS and LES: the pointer read goes into a register and a segment register; no window (40_data_transfer R143, R144). -/
def loadFar (j : SReg) (reg : Reg16) (v : (Word × Word) × State) : State := setSreg j v.1.2 (setReg16 reg v.1.1 v.2)

/-- XCHG of an `Eb` operand and a register: one read, then one write (40_data_transfer R139). -/
def xchgPlace8 (p : Place8) (reg : Reg8) (s : State) : State :=
  let a := readPlace8 p s
  writePlace8 p (a.2.reg8 reg) (setReg8 reg a.1 a.2)

/-- XCHG of an `Ew` operand and a register: one read, then one write (40_data_transfer R139). -/
def xchgPlace16 (p : Place16) (reg : Reg16) (s : State) : State :=
  let a := readPlace16 p s
  writePlace16 p (a.2.reg16 reg) (setReg16 reg a.1 a.2)

/-- PUSH of an `Ew` operand: read before the push; the register SP as PUSH SP (40_data_transfer R152). -/
def pushPlace16 (p : Place16) (s : State) : State :=
  let v := readPlace16 p s
  if p = .reg .sp then pushSp v.2 else push v.1 v.2

/-- POP into an `Ew` operand whose place was found before the pop (40_data_transfer R153). -/
def popPlace16 (p : Place16) (s : State) : State :=
  let v := pop s
  writePlace16 p v.1 v.2

/-- PUSH ES (40_data_transfer R150). -/
def execPushES (s : State) : Result :=
  .next (push s.segs.es s)

/-- PUSH CS (40_data_transfer R150). -/
def execPushCS (s : State) : Result :=
  .next (push s.segs.cs s)

/-- PUSH SS (40_data_transfer R150). -/
def execPushSS (s : State) : Result :=
  .next (push s.segs.ss s)

/-- PUSH DS (40_data_transfer R150). -/
def execPushDS (s : State) : Result :=
  .next (push s.segs.ds s)

/-- POP ES (40_data_transfer R151). -/
def execPopES (s : State) : Result :=
  .next (loadSreg .es (pop s))

/-- POP SS (40_data_transfer R151). -/
def execPopSS (s : State) : Result :=
  .next (loadSreg .ss (pop s))

/-- POP DS (40_data_transfer R151). -/
def execPopDS (s : State) : Result :=
  .next (loadSreg .ds (pop s))

/-- PUSH r16 (40_data_transfer R148). -/
def execPushR16 (reg : Reg16) (s : State) : Result :=
  .next (if reg = .sp then pushSp s else push (s.reg16 reg) s)

/-- POP r16 (40_data_transfer R149). -/
def execPopR16 (reg : Reg16) (s : State) : Result :=
  .next (loadReg16 reg (pop s))

/-- XCHG Eb,Gb (40_data_transfer R139). -/
def execXchgEbGb (rm : Rm8) (reg : Reg8) (s : State) : Result :=
  .next (xchgPlace8 (place8 rm s) reg s)

/-- XCHG Ew,Gw (40_data_transfer R139). -/
def execXchgEwGw (rm : Rm16) (reg : Reg16) (s : State) : Result :=
  .next (xchgPlace16 (place16 rm s) reg s)

/-- MOV Eb,Gb (40_data_transfer R130). -/
def execMovEbGb (rm : Rm8) (reg : Reg8) (s : State) : Result :=
  .next (writePlace8 (place8 rm s) (s.reg8 reg) s)

/-- MOV Ew,Gw (40_data_transfer R130). -/
def execMovEwGw (rm : Rm16) (reg : Reg16) (s : State) : Result :=
  .next (writePlace16 (place16 rm s) (s.reg16 reg) s)

/-- MOV Gb,Eb (40_data_transfer R131). -/
def execMovGbEb (reg : Reg8) (rm : Rm8) (s : State) : Result :=
  .next (loadReg8 reg (readPlace8 (place8 rm s) s))

/-- MOV Gw,Ew (40_data_transfer R131). -/
def execMovGwEw (reg : Reg16) (rm : Rm16) (s : State) : Result :=
  .next (loadReg16 reg (readPlace16 (place16 rm s) s))

/-- MOV Ew,Sw (40_data_transfer R132). -/
def execMovEwSw (rm : Rm16) (sreg : SReg) (s : State) : Result :=
  .next (writePlace16 (place16 rm s) (s.sreg sreg) s)

/-- LEA Gw,M (40_data_transfer R142). -/
def execLea (reg : Reg16) (mem : MemRef) (s : State) : Result :=
  .next (setReg16 reg (eaOff mem s) s)

/-- MOV ES,Ew (40_data_transfer R133). -/
def execMovESEw (rm : Rm16) (s : State) : Result :=
  .next (loadSreg .es (readPlace16 (place16 rm s) s))

/-- MOV SS,Ew (40_data_transfer R133). -/
def execMovSSEw (rm : Rm16) (s : State) : Result :=
  .next (loadSreg .ss (readPlace16 (place16 rm s) s))

/-- MOV DS,Ew (40_data_transfer R133). -/
def execMovDSEw (rm : Rm16) (s : State) : Result :=
  .next (loadSreg .ds (readPlace16 (place16 rm s) s))

/-- POP Ew (40_data_transfer R153). -/
def execPopEw (rm : Rm16) (s : State) : Result :=
  .next (popPlace16 (place16 rm s) s)

/-- NOP (40_data_transfer R141). -/
def execNop (s : State) : Result :=
  .next s

/-- XCHG AX,r16 (40_data_transfer R140). -/
def execXchgAXR16 (reg : Reg16) (s : State) : Result :=
  .next (setReg16 reg s.regs.ax (setReg16 .ax (s.reg16 reg) s))

/-- CBW (40_data_transfer R158). -/
def execCbw (s : State) : Result :=
  .next (setReg16 .ax (sext16 (s.reg8 .al)) s)

/-- CWD (40_data_transfer R159). -/
def execCwd (s : State) : Result :=
  .next (setReg16 .dx (if s.regs.ax.msb then 0xFFFF#16 else 0x0000#16) s)

/-- PUSHF (40_data_transfer R154). -/
def execPushf (s : State) : Result :=
  .next (push s.flags s)

/-- POPF (40_data_transfer R155). -/
def execPopf (s : State) : Result :=
  .next (setFlags (wholeFlags (pop s).1) (pop s).2)

/-- SAHF (40_data_transfer R157). -/
def execSahf (s : State) : Result :=
  .next (setFlags (sahfFlags (s.reg8 .ah) s.flags) s)

/-- LAHF (40_data_transfer R156). -/
def execLahf (s : State) : Result :=
  .next (setReg8 .ah (loByte s.flags) s)

/-- MOV AL,[moffs16] (40_data_transfer R134). -/
def execMovALMoffs (moffs : Word) (s : State) : Result :=
  .next (loadReg8 .al (segRead8 (overridden .ds s) moffs s))

/-- MOV AX,[moffs16] (40_data_transfer R134). -/
def execMovAXMoffs (moffs : Word) (s : State) : Result :=
  .next (loadReg16 .ax (segRead16 (overridden .ds s) moffs s))

/-- MOV [moffs16],AL (40_data_transfer R135). -/
def execMovMoffsAL (moffs : Word) (s : State) : Result :=
  .next (segWrite8 (overridden .ds s) moffs (s.reg8 .al) s)

/-- MOV [moffs16],AX (40_data_transfer R135). -/
def execMovMoffsAX (moffs : Word) (s : State) : Result :=
  .next (segWrite16 (overridden .ds s) moffs (s.reg16 .ax) s)

/-- MOV r8,Ib (40_data_transfer R136). -/
def execMovR8Ib (reg : Reg8) (imm : Byte) (s : State) : Result :=
  .next (setReg8 reg imm s)

/-- MOV r16,Iw (40_data_transfer R137). -/
def execMovR16Iw (reg : Reg16) (imm : Word) (s : State) : Result :=
  .next (setReg16 reg imm s)

/-- LES Gw,M (40_data_transfer R144). -/
def execLes (reg : Reg16) (mem : MemRef) (s : State) : Result :=
  .next (loadFar .es reg (readFar mem s))

/-- LDS Gw,M (40_data_transfer R143). -/
def execLds (reg : Reg16) (mem : MemRef) (s : State) : Result :=
  .next (loadFar .ds reg (readFar mem s))

/-- MOV Eb,Ib (40_data_transfer R138). -/
def execMovEbIb (rm : Rm8) (imm : Byte) (s : State) : Result :=
  .next (writePlace8 (place8 rm s) imm s)

/-- MOV Ew,Iw (40_data_transfer R138). -/
def execMovEwIw (rm : Rm16) (imm : Word) (s : State) : Result :=
  .next (writePlace16 (place16 rm s) imm s)

/-- XLAT (40_data_transfer R145). -/
def execXlat (s : State) : Result :=
  .next (loadReg8 .al (segRead8 (overridden .ds s) (s.regs.bx + zext16 (s.reg8 .al)) s))

/-- PUSH Ew (40_data_transfer R152). -/
def execPushEw (rm : Rm16) (s : State) : Result :=
  .next (pushPlace16 (place16 rm s) s)

end Sys2Proof.Machine
end

