-- ==== Sys2Proof/Machine/Logical.lean ====
section
/-! DEFINITION. The logical family (42_logical R201 to R205). -/

namespace Sys2Proof.Machine

open Sys2Proof

/-- NOT of an `Eb` operand: no flag changes (42_logical R205). -/
def notPlace8 (p : Place8) (s : State) : State :=
  let a := readPlace8 p s
  writePlace8 p (~~~a.1) a.2

/-- NOT of an `Ew` operand: no flag changes (42_logical R205). -/
def notPlace16 (p : Place16) (s : State) : State :=
  let a := readPlace16 p s
  writePlace16 p (~~~a.1) a.2

/-- OR Eb,Gb (42_logical R202). -/
def execOrEbGb (rm : Rm8) (reg : Reg8) (s : State) : Result :=
  .next (aluPlace8 .or (place8 rm s) (s.reg8 reg) s)

/-- OR Ew,Gw (42_logical R202). -/
def execOrEwGw (rm : Rm16) (reg : Reg16) (s : State) : Result :=
  .next (aluPlace16 .or (place16 rm s) (s.reg16 reg) s)

/-- OR Gb,Eb (42_logical R202). -/
def execOrGbEb (reg : Reg8) (rm : Rm8) (s : State) : Result :=
  .next (aluReg8 .or reg (place8 rm s) s)

/-- OR Gw,Ew (42_logical R202). -/
def execOrGwEw (reg : Reg16) (rm : Rm16) (s : State) : Result :=
  .next (aluReg16 .or reg (place16 rm s) s)

/-- OR AL,Ib (42_logical R202). -/
def execOrALIb (imm : Byte) (s : State) : Result :=
  .next (aluPlace8 .or (.reg .al) imm s)

/-- OR AX,Iw (42_logical R202). -/
def execOrAXIw (imm : Word) (s : State) : Result :=
  .next (aluPlace16 .or (.reg .ax) imm s)

/-- AND Eb,Gb (42_logical R201). -/
def execAndEbGb (rm : Rm8) (reg : Reg8) (s : State) : Result :=
  .next (aluPlace8 .and (place8 rm s) (s.reg8 reg) s)

/-- AND Ew,Gw (42_logical R201). -/
def execAndEwGw (rm : Rm16) (reg : Reg16) (s : State) : Result :=
  .next (aluPlace16 .and (place16 rm s) (s.reg16 reg) s)

/-- AND Gb,Eb (42_logical R201). -/
def execAndGbEb (reg : Reg8) (rm : Rm8) (s : State) : Result :=
  .next (aluReg8 .and reg (place8 rm s) s)

/-- AND Gw,Ew (42_logical R201). -/
def execAndGwEw (reg : Reg16) (rm : Rm16) (s : State) : Result :=
  .next (aluReg16 .and reg (place16 rm s) s)

/-- AND AL,Ib (42_logical R201). -/
def execAndALIb (imm : Byte) (s : State) : Result :=
  .next (aluPlace8 .and (.reg .al) imm s)

/-- AND AX,Iw (42_logical R201). -/
def execAndAXIw (imm : Word) (s : State) : Result :=
  .next (aluPlace16 .and (.reg .ax) imm s)

/-- XOR Eb,Gb (42_logical R203). -/
def execXorEbGb (rm : Rm8) (reg : Reg8) (s : State) : Result :=
  .next (aluPlace8 .xor (place8 rm s) (s.reg8 reg) s)

/-- XOR Ew,Gw (42_logical R203). -/
def execXorEwGw (rm : Rm16) (reg : Reg16) (s : State) : Result :=
  .next (aluPlace16 .xor (place16 rm s) (s.reg16 reg) s)

/-- XOR Gb,Eb (42_logical R203). -/
def execXorGbEb (reg : Reg8) (rm : Rm8) (s : State) : Result :=
  .next (aluReg8 .xor reg (place8 rm s) s)

/-- XOR Gw,Ew (42_logical R203). -/
def execXorGwEw (reg : Reg16) (rm : Rm16) (s : State) : Result :=
  .next (aluReg16 .xor reg (place16 rm s) s)

/-- XOR AL,Ib (42_logical R203). -/
def execXorALIb (imm : Byte) (s : State) : Result :=
  .next (aluPlace8 .xor (.reg .al) imm s)

/-- XOR AX,Iw (42_logical R203). -/
def execXorAXIw (imm : Word) (s : State) : Result :=
  .next (aluPlace16 .xor (.reg .ax) imm s)

/-- OR Eb,Ib (42_logical R202). -/
def execOrEbIb (rm : Rm8) (imm : Byte) (s : State) : Result :=
  .next (aluPlace8 .or (place8 rm s) imm s)

/-- OR Ew,Iw (42_logical R202). -/
def execOrEwIw (rm : Rm16) (imm : Word) (s : State) : Result :=
  .next (aluPlace16 .or (place16 rm s) imm s)

/-- OR Ew,Ibs (42_logical R202). -/
def execOrEwIbs (rm : Rm16) (imm : Byte) (s : State) : Result :=
  .next (aluPlace16 .or (place16 rm s) (sext16 imm) s)

/-- AND Eb,Ib (42_logical R201). -/
def execAndEbIb (rm : Rm8) (imm : Byte) (s : State) : Result :=
  .next (aluPlace8 .and (place8 rm s) imm s)

/-- AND Ew,Iw (42_logical R201). -/
def execAndEwIw (rm : Rm16) (imm : Word) (s : State) : Result :=
  .next (aluPlace16 .and (place16 rm s) imm s)

/-- AND Ew,Ibs (42_logical R201). -/
def execAndEwIbs (rm : Rm16) (imm : Byte) (s : State) : Result :=
  .next (aluPlace16 .and (place16 rm s) (sext16 imm) s)

/-- XOR Eb,Ib (42_logical R203). -/
def execXorEbIb (rm : Rm8) (imm : Byte) (s : State) : Result :=
  .next (aluPlace8 .xor (place8 rm s) imm s)

/-- XOR Ew,Iw (42_logical R203). -/
def execXorEwIw (rm : Rm16) (imm : Word) (s : State) : Result :=
  .next (aluPlace16 .xor (place16 rm s) imm s)

/-- XOR Ew,Ibs (42_logical R203). -/
def execXorEwIbs (rm : Rm16) (imm : Byte) (s : State) : Result :=
  .next (aluPlace16 .xor (place16 rm s) (sext16 imm) s)

/-- TEST Eb,Gb (42_logical R204). -/
def execTestEbGb (rm : Rm8) (reg : Reg8) (s : State) : Result :=
  .next (testPlace8 (place8 rm s) (s.reg8 reg) s)

/-- TEST Ew,Gw (42_logical R204). -/
def execTestEwGw (rm : Rm16) (reg : Reg16) (s : State) : Result :=
  .next (testPlace16 (place16 rm s) (s.reg16 reg) s)

/-- TEST AL,Ib (42_logical R204). -/
def execTestALIb (imm : Byte) (s : State) : Result :=
  .next (testPlace8 (.reg .al) imm s)

/-- TEST AX,Iw (42_logical R204). -/
def execTestAXIw (imm : Word) (s : State) : Result :=
  .next (testPlace16 (.reg .ax) imm s)

/-- TEST Eb,Ib (42_logical R204). -/
def execTestEbIb (rm : Rm8) (imm : Byte) (s : State) : Result :=
  .next (testPlace8 (place8 rm s) imm s)

/-- TEST Ew,Iw (42_logical R204). -/
def execTestEwIw (rm : Rm16) (imm : Word) (s : State) : Result :=
  .next (testPlace16 (place16 rm s) imm s)

/-- NOT Eb (42_logical R205). -/
def execNotEb (rm : Rm8) (s : State) : Result :=
  .next (notPlace8 (place8 rm s) s)

/-- NOT Ew (42_logical R205). -/
def execNotEw (rm : Rm16) (s : State) : Result :=
  .next (notPlace16 (place16 rm s) s)

end Sys2Proof.Machine
end

