-- ==== Sys2Proof/Machine/Prefixes.lean ====
section
/-! DEFINITION. The prefix bytes (30_encoding R92, 46_processor_control R308). Each records itself for the instruction whose
opcode follows the run of prefixes; a later prefix of the same kind replaces an earlier one (R93). A step runs them together
with that instruction (log 7). -/

namespace Sys2Proof.Machine

open Sys2Proof

/-- ES: (30_encoding R92). -/
def execSegES (s : State) : Result :=
  .next { s with segov := some .es }

/-- CS: (30_encoding R92). -/
def execSegCS (s : State) : Result :=
  .next { s with segov := some .cs }

/-- SS: (30_encoding R92). -/
def execSegSS (s : State) : Result :=
  .next { s with segov := some .ss }

/-- DS: (30_encoding R92). -/
def execSegDS (s : State) : Result :=
  .next { s with segov := some .ds }

/-- LOCK (46_processor_control R308). -/
def execLock (s : State) : Result :=
  .next s

/-- REPNE (30_encoding R92). -/
def execRepne (s : State) : Result :=
  .next { s with rep := some .ne }

/-- REP (30_encoding R92). -/
def execRep (s : State) : Result :=
  .next { s with rep := some .e }

end Sys2Proof.Machine
end

