-- ==== Sys2Proof/Machine/ProcessorControl.lean ====
section
/-! DEFINITION. The processor control instructions (46_processor_control R300 to R307). -/

namespace Sys2Proof.Machine

open Sys2Proof

/-- HLT (46_processor_control R300). -/
def execHlt (s : State) : Result :=
  .next { s with halted := true }

/-- CMC (46_processor_control R303). -/
def execCmc (s : State) : Result :=
  .next (setFlag .CF (!getFlag .CF s.flags) s)

/-- CLC (46_processor_control R301). -/
def execClc (s : State) : Result :=
  .next (setFlag .CF false s)

/-- STC (46_processor_control R302). -/
def execStc (s : State) : Result :=
  .next (setFlag .CF true s)

/-- CLI (46_processor_control R304). -/
def execCli (s : State) : Result :=
  .next (setFlag .IF false s)

/-- STI (46_processor_control R305). -/
def execSti (s : State) : Result :=
  .next (setFlag .IF true s)

/-- CLD (46_processor_control R306). -/
def execCld (s : State) : Result :=
  .next (setFlag .DF false s)

/-- STD (46_processor_control R307). -/
def execStd (s : State) : Result :=
  .next (setFlag .DF true s)

end Sys2Proof.Machine
end

