-- ==== Sys2Proof/Machine/Shift.lean ====
section
/-! DEFINITION. The shift and rotate family (43_shift_rotate R220 to R229): the count is 1, `CL` before the operation, or
`cnt8`. -/

namespace Sys2Proof.Machine

open Sys2Proof

/-- ROL Eb,cnt8 (43_shift_rotate R223). -/
def execRolEbCnt8 (rm : Rm8) (cnt : Byte) (s : State) : Result :=
  .next (shiftPlace8 .rol cnt (place8 rm s) s)

/-- ROR Eb,cnt8 (43_shift_rotate R224). -/
def execRorEbCnt8 (rm : Rm8) (cnt : Byte) (s : State) : Result :=
  .next (shiftPlace8 .ror cnt (place8 rm s) s)

/-- RCL Eb,cnt8 (43_shift_rotate R225). -/
def execRclEbCnt8 (rm : Rm8) (cnt : Byte) (s : State) : Result :=
  .next (shiftPlace8 .rcl cnt (place8 rm s) s)

/-- RCR Eb,cnt8 (43_shift_rotate R226). -/
def execRcrEbCnt8 (rm : Rm8) (cnt : Byte) (s : State) : Result :=
  .next (shiftPlace8 .rcr cnt (place8 rm s) s)

/-- SHL Eb,cnt8 (43_shift_rotate R227). -/
def execShlEbCnt8 (rm : Rm8) (cnt : Byte) (s : State) : Result :=
  .next (shiftPlace8 .shl cnt (place8 rm s) s)

/-- SHR Eb,cnt8 (43_shift_rotate R228). -/
def execShrEbCnt8 (rm : Rm8) (cnt : Byte) (s : State) : Result :=
  .next (shiftPlace8 .shr cnt (place8 rm s) s)

/-- SAR Eb,cnt8 (43_shift_rotate R229). -/
def execSarEbCnt8 (rm : Rm8) (cnt : Byte) (s : State) : Result :=
  .next (shiftPlace8 .sar cnt (place8 rm s) s)

/-- ROL Ew,cnt8 (43_shift_rotate R223). -/
def execRolEwCnt8 (rm : Rm16) (cnt : Byte) (s : State) : Result :=
  .next (shiftPlace16 .rol cnt (place16 rm s) s)

/-- ROR Ew,cnt8 (43_shift_rotate R224). -/
def execRorEwCnt8 (rm : Rm16) (cnt : Byte) (s : State) : Result :=
  .next (shiftPlace16 .ror cnt (place16 rm s) s)

/-- RCL Ew,cnt8 (43_shift_rotate R225). -/
def execRclEwCnt8 (rm : Rm16) (cnt : Byte) (s : State) : Result :=
  .next (shiftPlace16 .rcl cnt (place16 rm s) s)

/-- RCR Ew,cnt8 (43_shift_rotate R226). -/
def execRcrEwCnt8 (rm : Rm16) (cnt : Byte) (s : State) : Result :=
  .next (shiftPlace16 .rcr cnt (place16 rm s) s)

/-- SHL Ew,cnt8 (43_shift_rotate R227). -/
def execShlEwCnt8 (rm : Rm16) (cnt : Byte) (s : State) : Result :=
  .next (shiftPlace16 .shl cnt (place16 rm s) s)

/-- SHR Ew,cnt8 (43_shift_rotate R228). -/
def execShrEwCnt8 (rm : Rm16) (cnt : Byte) (s : State) : Result :=
  .next (shiftPlace16 .shr cnt (place16 rm s) s)

/-- SAR Ew,cnt8 (43_shift_rotate R229). -/
def execSarEwCnt8 (rm : Rm16) (cnt : Byte) (s : State) : Result :=
  .next (shiftPlace16 .sar cnt (place16 rm s) s)

/-- ROL Eb,1 (43_shift_rotate R223). -/
def execRolEb1 (rm : Rm8) (s : State) : Result :=
  .next (shiftPlace8 .rol 1 (place8 rm s) s)

/-- ROR Eb,1 (43_shift_rotate R224). -/
def execRorEb1 (rm : Rm8) (s : State) : Result :=
  .next (shiftPlace8 .ror 1 (place8 rm s) s)

/-- RCL Eb,1 (43_shift_rotate R225). -/
def execRclEb1 (rm : Rm8) (s : State) : Result :=
  .next (shiftPlace8 .rcl 1 (place8 rm s) s)

/-- RCR Eb,1 (43_shift_rotate R226). -/
def execRcrEb1 (rm : Rm8) (s : State) : Result :=
  .next (shiftPlace8 .rcr 1 (place8 rm s) s)

/-- SHL Eb,1 (43_shift_rotate R227). -/
def execShlEb1 (rm : Rm8) (s : State) : Result :=
  .next (shiftPlace8 .shl 1 (place8 rm s) s)

/-- SHR Eb,1 (43_shift_rotate R228). -/
def execShrEb1 (rm : Rm8) (s : State) : Result :=
  .next (shiftPlace8 .shr 1 (place8 rm s) s)

/-- SAR Eb,1 (43_shift_rotate R229). -/
def execSarEb1 (rm : Rm8) (s : State) : Result :=
  .next (shiftPlace8 .sar 1 (place8 rm s) s)

/-- ROL Ew,1 (43_shift_rotate R223). -/
def execRolEw1 (rm : Rm16) (s : State) : Result :=
  .next (shiftPlace16 .rol 1 (place16 rm s) s)

/-- ROR Ew,1 (43_shift_rotate R224). -/
def execRorEw1 (rm : Rm16) (s : State) : Result :=
  .next (shiftPlace16 .ror 1 (place16 rm s) s)

/-- RCL Ew,1 (43_shift_rotate R225). -/
def execRclEw1 (rm : Rm16) (s : State) : Result :=
  .next (shiftPlace16 .rcl 1 (place16 rm s) s)

/-- RCR Ew,1 (43_shift_rotate R226). -/
def execRcrEw1 (rm : Rm16) (s : State) : Result :=
  .next (shiftPlace16 .rcr 1 (place16 rm s) s)

/-- SHL Ew,1 (43_shift_rotate R227). -/
def execShlEw1 (rm : Rm16) (s : State) : Result :=
  .next (shiftPlace16 .shl 1 (place16 rm s) s)

/-- SHR Ew,1 (43_shift_rotate R228). -/
def execShrEw1 (rm : Rm16) (s : State) : Result :=
  .next (shiftPlace16 .shr 1 (place16 rm s) s)

/-- SAR Ew,1 (43_shift_rotate R229). -/
def execSarEw1 (rm : Rm16) (s : State) : Result :=
  .next (shiftPlace16 .sar 1 (place16 rm s) s)

/-- ROL Eb,CL (43_shift_rotate R223). -/
def execRolEbCL (rm : Rm8) (s : State) : Result :=
  .next (shiftPlace8 .rol (s.reg8 .cl) (place8 rm s) s)

/-- ROR Eb,CL (43_shift_rotate R224). -/
def execRorEbCL (rm : Rm8) (s : State) : Result :=
  .next (shiftPlace8 .ror (s.reg8 .cl) (place8 rm s) s)

/-- RCL Eb,CL (43_shift_rotate R225). -/
def execRclEbCL (rm : Rm8) (s : State) : Result :=
  .next (shiftPlace8 .rcl (s.reg8 .cl) (place8 rm s) s)

/-- RCR Eb,CL (43_shift_rotate R226). -/
def execRcrEbCL (rm : Rm8) (s : State) : Result :=
  .next (shiftPlace8 .rcr (s.reg8 .cl) (place8 rm s) s)

/-- SHL Eb,CL (43_shift_rotate R227). -/
def execShlEbCL (rm : Rm8) (s : State) : Result :=
  .next (shiftPlace8 .shl (s.reg8 .cl) (place8 rm s) s)

/-- SHR Eb,CL (43_shift_rotate R228). -/
def execShrEbCL (rm : Rm8) (s : State) : Result :=
  .next (shiftPlace8 .shr (s.reg8 .cl) (place8 rm s) s)

/-- SAR Eb,CL (43_shift_rotate R229). -/
def execSarEbCL (rm : Rm8) (s : State) : Result :=
  .next (shiftPlace8 .sar (s.reg8 .cl) (place8 rm s) s)

/-- ROL Ew,CL (43_shift_rotate R223). -/
def execRolEwCL (rm : Rm16) (s : State) : Result :=
  .next (shiftPlace16 .rol (s.reg8 .cl) (place16 rm s) s)

/-- ROR Ew,CL (43_shift_rotate R224). -/
def execRorEwCL (rm : Rm16) (s : State) : Result :=
  .next (shiftPlace16 .ror (s.reg8 .cl) (place16 rm s) s)

/-- RCL Ew,CL (43_shift_rotate R225). -/
def execRclEwCL (rm : Rm16) (s : State) : Result :=
  .next (shiftPlace16 .rcl (s.reg8 .cl) (place16 rm s) s)

/-- RCR Ew,CL (43_shift_rotate R226). -/
def execRcrEwCL (rm : Rm16) (s : State) : Result :=
  .next (shiftPlace16 .rcr (s.reg8 .cl) (place16 rm s) s)

/-- SHL Ew,CL (43_shift_rotate R227). -/
def execShlEwCL (rm : Rm16) (s : State) : Result :=
  .next (shiftPlace16 .shl (s.reg8 .cl) (place16 rm s) s)

/-- SHR Ew,CL (43_shift_rotate R228). -/
def execShrEwCL (rm : Rm16) (s : State) : Result :=
  .next (shiftPlace16 .shr (s.reg8 .cl) (place16 rm s) s)

/-- SAR Ew,CL (43_shift_rotate R229). -/
def execSarEwCL (rm : Rm16) (s : State) : Result :=
  .next (shiftPlace16 .sar (s.reg8 .cl) (place16 rm s) s)

end Sys2Proof.Machine
end

