-- ==== Sys2Proof/Machine/StringOps.lean ====
section
/-! DEFINITION. The string family (44_string R240 to R246): the single-element operations `One()`, and the instructions with
their repeat prefixes. `src` is the source segment, `delta` the step, both fixed before the first element (R240). -/

namespace Sys2Proof.Machine

open Sys2Proof

/-- One element of MOVSB (44_string R242). -/
def movsOne8 (src : SReg) (delta : Word) (s : State) : State :=
  let v := segRead8 src s.regs.si s
  advanceDi delta (advanceSi delta (segWrite8 .es v.2.regs.di v.1 v.2))

/-- One element of CMPSB (44_string R243): flags of source minus destination. -/
def cmpsOne8 (src : SReg) (delta : Word) (s : State) : State :=
  let a := segRead8 src s.regs.si s
  let b := segRead8 .es a.2.regs.di a.2
  advanceDi delta (advanceSi delta (setFlags (subOp a.1 b.1 false b.2.flags).2 b.2))

/-- One element of STOSB (44_string R244). -/
def stosOne8 (delta : Word) (s : State) : State :=
  advanceDi delta (segWrite8 .es s.regs.di (s.reg8 .al) s)

/-- One element of LODSB (44_string R245). -/
def lodsOne8 (src : SReg) (delta : Word) (s : State) : State :=
  let v := segRead8 src s.regs.si s
  advanceSi delta (setReg8 .al v.1 v.2)

/-- One element of SCASB (44_string R246): flags of accumulator minus element. -/
def scasOne8 (delta : Word) (s : State) : State :=
  let b := segRead8 .es s.regs.di s
  advanceDi delta (setFlags (subOp (b.2.reg8 .al) b.1 false b.2.flags).2 b.2)

/-- One element of MOVSW (44_string R242). -/
def movsOne16 (src : SReg) (delta : Word) (s : State) : State :=
  let v := segRead16 src s.regs.si s
  advanceDi delta (advanceSi delta (segWrite16 .es v.2.regs.di v.1 v.2))

/-- One element of CMPSW (44_string R243): flags of source minus destination. -/
def cmpsOne16 (src : SReg) (delta : Word) (s : State) : State :=
  let a := segRead16 src s.regs.si s
  let b := segRead16 .es a.2.regs.di a.2
  advanceDi delta (advanceSi delta (setFlags (subOp a.1 b.1 false b.2.flags).2 b.2))

/-- One element of STOSW (44_string R244). -/
def stosOne16 (delta : Word) (s : State) : State :=
  advanceDi delta (segWrite16 .es s.regs.di (s.reg16 .ax) s)

/-- One element of LODSW (44_string R245). -/
def lodsOne16 (src : SReg) (delta : Word) (s : State) : State :=
  let v := segRead16 src s.regs.si s
  advanceSi delta (setReg16 .ax v.1 v.2)

/-- One element of SCASW (44_string R246): flags of accumulator minus element. -/
def scasOne16 (delta : Word) (s : State) : State :=
  let b := segRead16 .es s.regs.di s
  advanceDi delta (setFlags (subOp (b.2.reg16 .ax) b.1 false b.2.flags).2 b.2)

/-- MOVSB (44_string R242). -/
def execMovsb (s : State) : Result :=
  .next (repeatPlain (movsOne8 (overridden .ds s) (stringDelta 1 s.flags)) s)

/-- MOVSW (44_string R242). -/
def execMovsw (s : State) : Result :=
  .next (repeatPlain (movsOne16 (overridden .ds s) (stringDelta 2 s.flags)) s)

/-- CMPSB (44_string R243). -/
def execCmpsb (s : State) : Result :=
  .next (repeatCompare (cmpsOne8 (overridden .ds s) (stringDelta 1 s.flags)) s)

/-- CMPSW (44_string R243). -/
def execCmpsw (s : State) : Result :=
  .next (repeatCompare (cmpsOne16 (overridden .ds s) (stringDelta 2 s.flags)) s)

/-- STOSB (44_string R244). -/
def execStosb (s : State) : Result :=
  .next (repeatPlain (stosOne8 (stringDelta 1 s.flags)) s)

/-- STOSW (44_string R244). -/
def execStosw (s : State) : Result :=
  .next (repeatPlain (stosOne16 (stringDelta 2 s.flags)) s)

/-- LODSB (44_string R245). -/
def execLodsb (s : State) : Result :=
  .next (repeatPlain (lodsOne8 (overridden .ds s) (stringDelta 1 s.flags)) s)

/-- LODSW (44_string R245). -/
def execLodsw (s : State) : Result :=
  .next (repeatPlain (lodsOne16 (overridden .ds s) (stringDelta 2 s.flags)) s)

/-- SCASB (44_string R246). -/
def execScasb (s : State) : Result :=
  .next (repeatCompare (scasOne8 (stringDelta 1 s.flags)) s)

/-- SCASW (44_string R246). -/
def execScasw (s : State) : Result :=
  .next (repeatCompare (scasOne16 (stringDelta 2 s.flags)) s)

end Sys2Proof.Machine
end

