-- ==== Sys2Proof/Machine/Dispatch.lean ====
section
/-! DEFINITION. The dispatcher: one arm per constructor of Instr, each one direct call of that instruction's meaning. -/

namespace Sys2Proof.Machine

open Sys2Proof

def exec (i : Instr) (s : State) : Host.Outcome State Fault Refusal :=
  match i with
  | .addEbGb rm reg => Sys2Proof.Machine.execAddEbGb rm reg s
  | .addEwGw rm reg => Sys2Proof.Machine.execAddEwGw rm reg s
  | .addGbEb reg rm => Sys2Proof.Machine.execAddGbEb reg rm s
  | .addGwEw reg rm => Sys2Proof.Machine.execAddGwEw reg rm s
  | .addALIb imm => Sys2Proof.Machine.execAddALIb imm s
  | .addAXIw imm => Sys2Proof.Machine.execAddAXIw imm s
  | .orEbGb rm reg => Sys2Proof.Machine.execOrEbGb rm reg s
  | .orEwGw rm reg => Sys2Proof.Machine.execOrEwGw rm reg s
  | .orGbEb reg rm => Sys2Proof.Machine.execOrGbEb reg rm s
  | .orGwEw reg rm => Sys2Proof.Machine.execOrGwEw reg rm s
  | .orALIb imm => Sys2Proof.Machine.execOrALIb imm s
  | .orAXIw imm => Sys2Proof.Machine.execOrAXIw imm s
  | .adcEbGb rm reg => Sys2Proof.Machine.execAdcEbGb rm reg s
  | .adcEwGw rm reg => Sys2Proof.Machine.execAdcEwGw rm reg s
  | .adcGbEb reg rm => Sys2Proof.Machine.execAdcGbEb reg rm s
  | .adcGwEw reg rm => Sys2Proof.Machine.execAdcGwEw reg rm s
  | .adcALIb imm => Sys2Proof.Machine.execAdcALIb imm s
  | .adcAXIw imm => Sys2Proof.Machine.execAdcAXIw imm s
  | .sbbEbGb rm reg => Sys2Proof.Machine.execSbbEbGb rm reg s
  | .sbbEwGw rm reg => Sys2Proof.Machine.execSbbEwGw rm reg s
  | .sbbGbEb reg rm => Sys2Proof.Machine.execSbbGbEb reg rm s
  | .sbbGwEw reg rm => Sys2Proof.Machine.execSbbGwEw reg rm s
  | .sbbALIb imm => Sys2Proof.Machine.execSbbALIb imm s
  | .sbbAXIw imm => Sys2Proof.Machine.execSbbAXIw imm s
  | .andEbGb rm reg => Sys2Proof.Machine.execAndEbGb rm reg s
  | .andEwGw rm reg => Sys2Proof.Machine.execAndEwGw rm reg s
  | .andGbEb reg rm => Sys2Proof.Machine.execAndGbEb reg rm s
  | .andGwEw reg rm => Sys2Proof.Machine.execAndGwEw reg rm s
  | .andALIb imm => Sys2Proof.Machine.execAndALIb imm s
  | .andAXIw imm => Sys2Proof.Machine.execAndAXIw imm s
  | .subEbGb rm reg => Sys2Proof.Machine.execSubEbGb rm reg s
  | .subEwGw rm reg => Sys2Proof.Machine.execSubEwGw rm reg s
  | .subGbEb reg rm => Sys2Proof.Machine.execSubGbEb reg rm s
  | .subGwEw reg rm => Sys2Proof.Machine.execSubGwEw reg rm s
  | .subALIb imm => Sys2Proof.Machine.execSubALIb imm s
  | .subAXIw imm => Sys2Proof.Machine.execSubAXIw imm s
  | .xorEbGb rm reg => Sys2Proof.Machine.execXorEbGb rm reg s
  | .xorEwGw rm reg => Sys2Proof.Machine.execXorEwGw rm reg s
  | .xorGbEb reg rm => Sys2Proof.Machine.execXorGbEb reg rm s
  | .xorGwEw reg rm => Sys2Proof.Machine.execXorGwEw reg rm s
  | .xorALIb imm => Sys2Proof.Machine.execXorALIb imm s
  | .xorAXIw imm => Sys2Proof.Machine.execXorAXIw imm s
  | .cmpEbGb rm reg => Sys2Proof.Machine.execCmpEbGb rm reg s
  | .cmpEwGw rm reg => Sys2Proof.Machine.execCmpEwGw rm reg s
  | .cmpGbEb reg rm => Sys2Proof.Machine.execCmpGbEb reg rm s
  | .cmpGwEw reg rm => Sys2Proof.Machine.execCmpGwEw reg rm s
  | .cmpALIb imm => Sys2Proof.Machine.execCmpALIb imm s
  | .cmpAXIw imm => Sys2Proof.Machine.execCmpAXIw imm s
  | .pushES => Sys2Proof.Machine.execPushES s
  | .pushCS => Sys2Proof.Machine.execPushCS s
  | .pushSS => Sys2Proof.Machine.execPushSS s
  | .pushDS => Sys2Proof.Machine.execPushDS s
  | .popES => Sys2Proof.Machine.execPopES s
  | .popSS => Sys2Proof.Machine.execPopSS s
  | .popDS => Sys2Proof.Machine.execPopDS s
  | .incR16 reg => Sys2Proof.Machine.execIncR16 reg s
  | .decR16 reg => Sys2Proof.Machine.execDecR16 reg s
  | .pushR16 reg => Sys2Proof.Machine.execPushR16 reg s
  | .popR16 reg => Sys2Proof.Machine.execPopR16 reg s
  | .jo rel => Sys2Proof.Machine.execJo rel s
  | .jno rel => Sys2Proof.Machine.execJno rel s
  | .jb rel => Sys2Proof.Machine.execJb rel s
  | .jae rel => Sys2Proof.Machine.execJae rel s
  | .je rel => Sys2Proof.Machine.execJe rel s
  | .jne rel => Sys2Proof.Machine.execJne rel s
  | .jbe rel => Sys2Proof.Machine.execJbe rel s
  | .ja rel => Sys2Proof.Machine.execJa rel s
  | .js rel => Sys2Proof.Machine.execJs rel s
  | .jns rel => Sys2Proof.Machine.execJns rel s
  | .jp rel => Sys2Proof.Machine.execJp rel s
  | .jnp rel => Sys2Proof.Machine.execJnp rel s
  | .jl rel => Sys2Proof.Machine.execJl rel s
  | .jge rel => Sys2Proof.Machine.execJge rel s
  | .jle rel => Sys2Proof.Machine.execJle rel s
  | .jg rel => Sys2Proof.Machine.execJg rel s
  | .addEbIb rm imm => Sys2Proof.Machine.execAddEbIb rm imm s
  | .addEwIw rm imm => Sys2Proof.Machine.execAddEwIw rm imm s
  | .addEwIbs rm imm => Sys2Proof.Machine.execAddEwIbs rm imm s
  | .orEbIb rm imm => Sys2Proof.Machine.execOrEbIb rm imm s
  | .orEwIw rm imm => Sys2Proof.Machine.execOrEwIw rm imm s
  | .orEwIbs rm imm => Sys2Proof.Machine.execOrEwIbs rm imm s
  | .adcEbIb rm imm => Sys2Proof.Machine.execAdcEbIb rm imm s
  | .adcEwIw rm imm => Sys2Proof.Machine.execAdcEwIw rm imm s
  | .adcEwIbs rm imm => Sys2Proof.Machine.execAdcEwIbs rm imm s
  | .sbbEbIb rm imm => Sys2Proof.Machine.execSbbEbIb rm imm s
  | .sbbEwIw rm imm => Sys2Proof.Machine.execSbbEwIw rm imm s
  | .sbbEwIbs rm imm => Sys2Proof.Machine.execSbbEwIbs rm imm s
  | .andEbIb rm imm => Sys2Proof.Machine.execAndEbIb rm imm s
  | .andEwIw rm imm => Sys2Proof.Machine.execAndEwIw rm imm s
  | .andEwIbs rm imm => Sys2Proof.Machine.execAndEwIbs rm imm s
  | .subEbIb rm imm => Sys2Proof.Machine.execSubEbIb rm imm s
  | .subEwIw rm imm => Sys2Proof.Machine.execSubEwIw rm imm s
  | .subEwIbs rm imm => Sys2Proof.Machine.execSubEwIbs rm imm s
  | .xorEbIb rm imm => Sys2Proof.Machine.execXorEbIb rm imm s
  | .xorEwIw rm imm => Sys2Proof.Machine.execXorEwIw rm imm s
  | .xorEwIbs rm imm => Sys2Proof.Machine.execXorEwIbs rm imm s
  | .cmpEbIb rm imm => Sys2Proof.Machine.execCmpEbIb rm imm s
  | .cmpEwIw rm imm => Sys2Proof.Machine.execCmpEwIw rm imm s
  | .cmpEwIbs rm imm => Sys2Proof.Machine.execCmpEwIbs rm imm s
  | .testEbGb rm reg => Sys2Proof.Machine.execTestEbGb rm reg s
  | .testEwGw rm reg => Sys2Proof.Machine.execTestEwGw rm reg s
  | .xchgEbGb rm reg => Sys2Proof.Machine.execXchgEbGb rm reg s
  | .xchgEwGw rm reg => Sys2Proof.Machine.execXchgEwGw rm reg s
  | .movEbGb rm reg => Sys2Proof.Machine.execMovEbGb rm reg s
  | .movEwGw rm reg => Sys2Proof.Machine.execMovEwGw rm reg s
  | .movGbEb reg rm => Sys2Proof.Machine.execMovGbEb reg rm s
  | .movGwEw reg rm => Sys2Proof.Machine.execMovGwEw reg rm s
  | .movEwSw rm sreg => Sys2Proof.Machine.execMovEwSw rm sreg s
  | .lea reg mem => Sys2Proof.Machine.execLea reg mem s
  | .movESEw rm => Sys2Proof.Machine.execMovESEw rm s
  | .movSSEw rm => Sys2Proof.Machine.execMovSSEw rm s
  | .movDSEw rm => Sys2Proof.Machine.execMovDSEw rm s
  | .popEw rm => Sys2Proof.Machine.execPopEw rm s
  | .nop => Sys2Proof.Machine.execNop s
  | .xchgAXR16 reg => Sys2Proof.Machine.execXchgAXR16 reg s
  | .cbw => Sys2Proof.Machine.execCbw s
  | .cwd => Sys2Proof.Machine.execCwd s
  | .callFar off seg => Sys2Proof.Machine.execCallFar off seg s
  | .pushf => Sys2Proof.Machine.execPushf s
  | .popf => Sys2Proof.Machine.execPopf s
  | .sahf => Sys2Proof.Machine.execSahf s
  | .lahf => Sys2Proof.Machine.execLahf s
  | .movALMoffs moffs => Sys2Proof.Machine.execMovALMoffs moffs s
  | .movAXMoffs moffs => Sys2Proof.Machine.execMovAXMoffs moffs s
  | .movMoffsAL moffs => Sys2Proof.Machine.execMovMoffsAL moffs s
  | .movMoffsAX moffs => Sys2Proof.Machine.execMovMoffsAX moffs s
  | .movsb => Sys2Proof.Machine.execMovsb s
  | .movsw => Sys2Proof.Machine.execMovsw s
  | .cmpsb => Sys2Proof.Machine.execCmpsb s
  | .cmpsw => Sys2Proof.Machine.execCmpsw s
  | .testALIb imm => Sys2Proof.Machine.execTestALIb imm s
  | .testAXIw imm => Sys2Proof.Machine.execTestAXIw imm s
  | .stosb => Sys2Proof.Machine.execStosb s
  | .stosw => Sys2Proof.Machine.execStosw s
  | .lodsb => Sys2Proof.Machine.execLodsb s
  | .lodsw => Sys2Proof.Machine.execLodsw s
  | .scasb => Sys2Proof.Machine.execScasb s
  | .scasw => Sys2Proof.Machine.execScasw s
  | .movR8Ib reg imm => Sys2Proof.Machine.execMovR8Ib reg imm s
  | .movR16Iw reg imm => Sys2Proof.Machine.execMovR16Iw reg imm s
  | .rolEbCnt8 rm cnt => Sys2Proof.Machine.execRolEbCnt8 rm cnt s
  | .rorEbCnt8 rm cnt => Sys2Proof.Machine.execRorEbCnt8 rm cnt s
  | .rclEbCnt8 rm cnt => Sys2Proof.Machine.execRclEbCnt8 rm cnt s
  | .rcrEbCnt8 rm cnt => Sys2Proof.Machine.execRcrEbCnt8 rm cnt s
  | .shlEbCnt8 rm cnt => Sys2Proof.Machine.execShlEbCnt8 rm cnt s
  | .shrEbCnt8 rm cnt => Sys2Proof.Machine.execShrEbCnt8 rm cnt s
  | .sarEbCnt8 rm cnt => Sys2Proof.Machine.execSarEbCnt8 rm cnt s
  | .rolEwCnt8 rm cnt => Sys2Proof.Machine.execRolEwCnt8 rm cnt s
  | .rorEwCnt8 rm cnt => Sys2Proof.Machine.execRorEwCnt8 rm cnt s
  | .rclEwCnt8 rm cnt => Sys2Proof.Machine.execRclEwCnt8 rm cnt s
  | .rcrEwCnt8 rm cnt => Sys2Proof.Machine.execRcrEwCnt8 rm cnt s
  | .shlEwCnt8 rm cnt => Sys2Proof.Machine.execShlEwCnt8 rm cnt s
  | .shrEwCnt8 rm cnt => Sys2Proof.Machine.execShrEwCnt8 rm cnt s
  | .sarEwCnt8 rm cnt => Sys2Proof.Machine.execSarEwCnt8 rm cnt s
  | .rolEb1 rm => Sys2Proof.Machine.execRolEb1 rm s
  | .rorEb1 rm => Sys2Proof.Machine.execRorEb1 rm s
  | .rclEb1 rm => Sys2Proof.Machine.execRclEb1 rm s
  | .rcrEb1 rm => Sys2Proof.Machine.execRcrEb1 rm s
  | .shlEb1 rm => Sys2Proof.Machine.execShlEb1 rm s
  | .shrEb1 rm => Sys2Proof.Machine.execShrEb1 rm s
  | .sarEb1 rm => Sys2Proof.Machine.execSarEb1 rm s
  | .rolEw1 rm => Sys2Proof.Machine.execRolEw1 rm s
  | .rorEw1 rm => Sys2Proof.Machine.execRorEw1 rm s
  | .rclEw1 rm => Sys2Proof.Machine.execRclEw1 rm s
  | .rcrEw1 rm => Sys2Proof.Machine.execRcrEw1 rm s
  | .shlEw1 rm => Sys2Proof.Machine.execShlEw1 rm s
  | .shrEw1 rm => Sys2Proof.Machine.execShrEw1 rm s
  | .sarEw1 rm => Sys2Proof.Machine.execSarEw1 rm s
  | .rolEbCL rm => Sys2Proof.Machine.execRolEbCL rm s
  | .rorEbCL rm => Sys2Proof.Machine.execRorEbCL rm s
  | .rclEbCL rm => Sys2Proof.Machine.execRclEbCL rm s
  | .rcrEbCL rm => Sys2Proof.Machine.execRcrEbCL rm s
  | .shlEbCL rm => Sys2Proof.Machine.execShlEbCL rm s
  | .shrEbCL rm => Sys2Proof.Machine.execShrEbCL rm s
  | .sarEbCL rm => Sys2Proof.Machine.execSarEbCL rm s
  | .rolEwCL rm => Sys2Proof.Machine.execRolEwCL rm s
  | .rorEwCL rm => Sys2Proof.Machine.execRorEwCL rm s
  | .rclEwCL rm => Sys2Proof.Machine.execRclEwCL rm s
  | .rcrEwCL rm => Sys2Proof.Machine.execRcrEwCL rm s
  | .shlEwCL rm => Sys2Proof.Machine.execShlEwCL rm s
  | .shrEwCL rm => Sys2Proof.Machine.execShrEwCL rm s
  | .sarEwCL rm => Sys2Proof.Machine.execSarEwCL rm s
  | .retPop cnt => Sys2Proof.Machine.execRetPop cnt s
  | .ret => Sys2Proof.Machine.execRet s
  | .les reg mem => Sys2Proof.Machine.execLes reg mem s
  | .lds reg mem => Sys2Proof.Machine.execLds reg mem s
  | .movEbIb rm imm => Sys2Proof.Machine.execMovEbIb rm imm s
  | .movEwIw rm imm => Sys2Proof.Machine.execMovEwIw rm imm s
  | .retfPop cnt => Sys2Proof.Machine.execRetfPop cnt s
  | .retf => Sys2Proof.Machine.execRetf s
  | .int3 => Sys2Proof.Machine.execInt3 s
  | .int vec => Sys2Proof.Machine.execInt vec s
  | .into => Sys2Proof.Machine.execInto s
  | .iret => Sys2Proof.Machine.execIret s
  | .xlat => Sys2Proof.Machine.execXlat s
  | .loopne rel => Sys2Proof.Machine.execLoopne rel s
  | .loope rel => Sys2Proof.Machine.execLoope rel s
  | .loop rel => Sys2Proof.Machine.execLoop rel s
  | .jcxz rel => Sys2Proof.Machine.execJcxz rel s
  | .callRel16 rel => Sys2Proof.Machine.execCallRel16 rel s
  | .jmpRel16 rel => Sys2Proof.Machine.execJmpRel16 rel s
  | .jmpFar off seg => Sys2Proof.Machine.execJmpFar off seg s
  | .jmpRel8 rel => Sys2Proof.Machine.execJmpRel8 rel s
  | .hlt => Sys2Proof.Machine.execHlt s
  | .cmc => Sys2Proof.Machine.execCmc s
  | .testEbIb rm imm => Sys2Proof.Machine.execTestEbIb rm imm s
  | .testEwIw rm imm => Sys2Proof.Machine.execTestEwIw rm imm s
  | .notEb rm => Sys2Proof.Machine.execNotEb rm s
  | .notEw rm => Sys2Proof.Machine.execNotEw rm s
  | .negEb rm => Sys2Proof.Machine.execNegEb rm s
  | .negEw rm => Sys2Proof.Machine.execNegEw rm s
  | .clc => Sys2Proof.Machine.execClc s
  | .stc => Sys2Proof.Machine.execStc s
  | .cli => Sys2Proof.Machine.execCli s
  | .sti => Sys2Proof.Machine.execSti s
  | .cld => Sys2Proof.Machine.execCld s
  | .std => Sys2Proof.Machine.execStd s
  | .incEb rm => Sys2Proof.Machine.execIncEb rm s
  | .decEb rm => Sys2Proof.Machine.execDecEb rm s
  | .incEw rm => Sys2Proof.Machine.execIncEw rm s
  | .decEw rm => Sys2Proof.Machine.execDecEw rm s
  | .callEw rm => Sys2Proof.Machine.execCallEw rm s
  | .callFarM mem => Sys2Proof.Machine.execCallFarM mem s
  | .jmpEw rm => Sys2Proof.Machine.execJmpEw rm s
  | .jmpFarM mem => Sys2Proof.Machine.execJmpFarM mem s
  | .pushEw rm => Sys2Proof.Machine.execPushEw rm s
  | .segES => Sys2Proof.Machine.execSegES s
  | .segCS => Sys2Proof.Machine.execSegCS s
  | .segSS => Sys2Proof.Machine.execSegSS s
  | .segDS => Sys2Proof.Machine.execSegDS s
  | .lock => Sys2Proof.Machine.execLock s
  | .repne => Sys2Proof.Machine.execRepne s
  | .rep => Sys2Proof.Machine.execRep s

end Sys2Proof.Machine
end

