-- ==== Sys2Proof/WellFormed.lean ====
section
/-! DEFINITION. Which terms of `Instr` have an encoding. Two checks: a ModRM memory operand of `mod = 0` has no base
`BP` (that code is the direct form, 30_encoding R96, R97), and `XCHG AX,r16` has `r` in 1..7 (`90` is NOP,
40_data_transfer R140, R141). Every other field of a constructor takes every value of its type. -/

namespace Sys2Proof

/-- `mod = 0` with `rm = 6` is the direct form, so `plain bp` has no encoding (30_encoding R96). -/
def MemRef.wf : MemRef → Bool
  | .plain b => b != .bp
  | .direct _ => true
  | .disp8 _ _ => true
  | .disp16 _ _ => true

/-- An `Eb` operand has an encoding. -/
def Rm8.wf : Rm8 → Bool
  | .reg _ => true
  | .mem m => m.wf

/-- An `Ew` operand has an encoding. -/
def Rm16.wf : Rm16 → Bool
  | .reg _ => true
  | .mem m => m.wf

/-- The instruction has an encoding (30_encoding R104, R105). -/
def Instr.wf : Instr → Bool
  | .addEbGb rm _ => rm.wf
  | .addEwGw rm _ => rm.wf
  | .addGbEb _ rm => rm.wf
  | .addGwEw _ rm => rm.wf
  | .addALIb _ => true
  | .addAXIw _ => true
  | .orEbGb rm _ => rm.wf
  | .orEwGw rm _ => rm.wf
  | .orGbEb _ rm => rm.wf
  | .orGwEw _ rm => rm.wf
  | .orALIb _ => true
  | .orAXIw _ => true
  | .adcEbGb rm _ => rm.wf
  | .adcEwGw rm _ => rm.wf
  | .adcGbEb _ rm => rm.wf
  | .adcGwEw _ rm => rm.wf
  | .adcALIb _ => true
  | .adcAXIw _ => true
  | .sbbEbGb rm _ => rm.wf
  | .sbbEwGw rm _ => rm.wf
  | .sbbGbEb _ rm => rm.wf
  | .sbbGwEw _ rm => rm.wf
  | .sbbALIb _ => true
  | .sbbAXIw _ => true
  | .andEbGb rm _ => rm.wf
  | .andEwGw rm _ => rm.wf
  | .andGbEb _ rm => rm.wf
  | .andGwEw _ rm => rm.wf
  | .andALIb _ => true
  | .andAXIw _ => true
  | .subEbGb rm _ => rm.wf
  | .subEwGw rm _ => rm.wf
  | .subGbEb _ rm => rm.wf
  | .subGwEw _ rm => rm.wf
  | .subALIb _ => true
  | .subAXIw _ => true
  | .xorEbGb rm _ => rm.wf
  | .xorEwGw rm _ => rm.wf
  | .xorGbEb _ rm => rm.wf
  | .xorGwEw _ rm => rm.wf
  | .xorALIb _ => true
  | .xorAXIw _ => true
  | .cmpEbGb rm _ => rm.wf
  | .cmpEwGw rm _ => rm.wf
  | .cmpGbEb _ rm => rm.wf
  | .cmpGwEw _ rm => rm.wf
  | .cmpALIb _ => true
  | .cmpAXIw _ => true
  | .pushES => true
  | .pushCS => true
  | .pushSS => true
  | .pushDS => true
  | .popES => true
  | .popSS => true
  | .popDS => true
  | .incR16 _ => true
  | .decR16 _ => true
  | .pushR16 _ => true
  | .popR16 _ => true
  | .jo _ => true
  | .jno _ => true
  | .jb _ => true
  | .jae _ => true
  | .je _ => true
  | .jne _ => true
  | .jbe _ => true
  | .ja _ => true
  | .js _ => true
  | .jns _ => true
  | .jp _ => true
  | .jnp _ => true
  | .jl _ => true
  | .jge _ => true
  | .jle _ => true
  | .jg _ => true
  | .addEbIb rm _ => rm.wf
  | .addEwIw rm _ => rm.wf
  | .addEwIbs rm _ => rm.wf
  | .orEbIb rm _ => rm.wf
  | .orEwIw rm _ => rm.wf
  | .orEwIbs rm _ => rm.wf
  | .adcEbIb rm _ => rm.wf
  | .adcEwIw rm _ => rm.wf
  | .adcEwIbs rm _ => rm.wf
  | .sbbEbIb rm _ => rm.wf
  | .sbbEwIw rm _ => rm.wf
  | .sbbEwIbs rm _ => rm.wf
  | .andEbIb rm _ => rm.wf
  | .andEwIw rm _ => rm.wf
  | .andEwIbs rm _ => rm.wf
  | .subEbIb rm _ => rm.wf
  | .subEwIw rm _ => rm.wf
  | .subEwIbs rm _ => rm.wf
  | .xorEbIb rm _ => rm.wf
  | .xorEwIw rm _ => rm.wf
  | .xorEwIbs rm _ => rm.wf
  | .cmpEbIb rm _ => rm.wf
  | .cmpEwIw rm _ => rm.wf
  | .cmpEwIbs rm _ => rm.wf
  | .testEbGb rm _ => rm.wf
  | .testEwGw rm _ => rm.wf
  | .xchgEbGb rm _ => rm.wf
  | .xchgEwGw rm _ => rm.wf
  | .movEbGb rm _ => rm.wf
  | .movEwGw rm _ => rm.wf
  | .movGbEb _ rm => rm.wf
  | .movGwEw _ rm => rm.wf
  | .movEwSw rm _ => rm.wf
  | .lea _ mem => mem.wf
  | .movESEw rm => rm.wf
  | .movSSEw rm => rm.wf
  | .movDSEw rm => rm.wf
  | .popEw rm => rm.wf
  | .nop => true
  | .xchgAXR16 reg => reg != .ax
  | .cbw => true
  | .cwd => true
  | .callFar _ _ => true
  | .pushf => true
  | .popf => true
  | .sahf => true
  | .lahf => true
  | .movALMoffs _ => true
  | .movAXMoffs _ => true
  | .movMoffsAL _ => true
  | .movMoffsAX _ => true
  | .movsb => true
  | .movsw => true
  | .cmpsb => true
  | .cmpsw => true
  | .testALIb _ => true
  | .testAXIw _ => true
  | .stosb => true
  | .stosw => true
  | .lodsb => true
  | .lodsw => true
  | .scasb => true
  | .scasw => true
  | .movR8Ib _ _ => true
  | .movR16Iw _ _ => true
  | .rolEbCnt8 rm _ => rm.wf
  | .rorEbCnt8 rm _ => rm.wf
  | .rclEbCnt8 rm _ => rm.wf
  | .rcrEbCnt8 rm _ => rm.wf
  | .shlEbCnt8 rm _ => rm.wf
  | .shrEbCnt8 rm _ => rm.wf
  | .sarEbCnt8 rm _ => rm.wf
  | .rolEwCnt8 rm _ => rm.wf
  | .rorEwCnt8 rm _ => rm.wf
  | .rclEwCnt8 rm _ => rm.wf
  | .rcrEwCnt8 rm _ => rm.wf
  | .shlEwCnt8 rm _ => rm.wf
  | .shrEwCnt8 rm _ => rm.wf
  | .sarEwCnt8 rm _ => rm.wf
  | .rolEb1 rm => rm.wf
  | .rorEb1 rm => rm.wf
  | .rclEb1 rm => rm.wf
  | .rcrEb1 rm => rm.wf
  | .shlEb1 rm => rm.wf
  | .shrEb1 rm => rm.wf
  | .sarEb1 rm => rm.wf
  | .rolEw1 rm => rm.wf
  | .rorEw1 rm => rm.wf
  | .rclEw1 rm => rm.wf
  | .rcrEw1 rm => rm.wf
  | .shlEw1 rm => rm.wf
  | .shrEw1 rm => rm.wf
  | .sarEw1 rm => rm.wf
  | .rolEbCL rm => rm.wf
  | .rorEbCL rm => rm.wf
  | .rclEbCL rm => rm.wf
  | .rcrEbCL rm => rm.wf
  | .shlEbCL rm => rm.wf
  | .shrEbCL rm => rm.wf
  | .sarEbCL rm => rm.wf
  | .rolEwCL rm => rm.wf
  | .rorEwCL rm => rm.wf
  | .rclEwCL rm => rm.wf
  | .rcrEwCL rm => rm.wf
  | .shlEwCL rm => rm.wf
  | .shrEwCL rm => rm.wf
  | .sarEwCL rm => rm.wf
  | .retPop _ => true
  | .ret => true
  | .les _ mem => mem.wf
  | .lds _ mem => mem.wf
  | .movEbIb rm _ => rm.wf
  | .movEwIw rm _ => rm.wf
  | .retfPop _ => true
  | .retf => true
  | .int3 => true
  | .int _ => true
  | .into => true
  | .iret => true
  | .xlat => true
  | .loopne _ => true
  | .loope _ => true
  | .loop _ => true
  | .jcxz _ => true
  | .callRel16 _ => true
  | .jmpRel16 _ => true
  | .jmpFar _ _ => true
  | .jmpRel8 _ => true
  | .hlt => true
  | .cmc => true
  | .testEbIb rm _ => rm.wf
  | .testEwIw rm _ => rm.wf
  | .notEb rm => rm.wf
  | .notEw rm => rm.wf
  | .negEb rm => rm.wf
  | .negEw rm => rm.wf
  | .clc => true
  | .stc => true
  | .cli => true
  | .sti => true
  | .cld => true
  | .std => true
  | .incEb rm => rm.wf
  | .decEb rm => rm.wf
  | .incEw rm => rm.wf
  | .decEw rm => rm.wf
  | .callEw rm => rm.wf
  | .callFarM mem => mem.wf
  | .jmpEw rm => rm.wf
  | .jmpFarM mem => mem.wf
  | .pushEw rm => rm.wf
  | .segES => true
  | .segCS => true
  | .segSS => true
  | .segDS => true
  | .lock => true
  | .repne => true
  | .rep => true

/-- The constructor stands for a prefix byte, not for an instruction (30_encoding R92). -/
def Instr.isPrefix : Instr → Bool
  | .addEbGb _ _ => false
  | .addEwGw _ _ => false
  | .addGbEb _ _ => false
  | .addGwEw _ _ => false
  | .addALIb _ => false
  | .addAXIw _ => false
  | .orEbGb _ _ => false
  | .orEwGw _ _ => false
  | .orGbEb _ _ => false
  | .orGwEw _ _ => false
  | .orALIb _ => false
  | .orAXIw _ => false
  | .adcEbGb _ _ => false
  | .adcEwGw _ _ => false
  | .adcGbEb _ _ => false
  | .adcGwEw _ _ => false
  | .adcALIb _ => false
  | .adcAXIw _ => false
  | .sbbEbGb _ _ => false
  | .sbbEwGw _ _ => false
  | .sbbGbEb _ _ => false
  | .sbbGwEw _ _ => false
  | .sbbALIb _ => false
  | .sbbAXIw _ => false
  | .andEbGb _ _ => false
  | .andEwGw _ _ => false
  | .andGbEb _ _ => false
  | .andGwEw _ _ => false
  | .andALIb _ => false
  | .andAXIw _ => false
  | .subEbGb _ _ => false
  | .subEwGw _ _ => false
  | .subGbEb _ _ => false
  | .subGwEw _ _ => false
  | .subALIb _ => false
  | .subAXIw _ => false
  | .xorEbGb _ _ => false
  | .xorEwGw _ _ => false
  | .xorGbEb _ _ => false
  | .xorGwEw _ _ => false
  | .xorALIb _ => false
  | .xorAXIw _ => false
  | .cmpEbGb _ _ => false
  | .cmpEwGw _ _ => false
  | .cmpGbEb _ _ => false
  | .cmpGwEw _ _ => false
  | .cmpALIb _ => false
  | .cmpAXIw _ => false
  | .pushES => false
  | .pushCS => false
  | .pushSS => false
  | .pushDS => false
  | .popES => false
  | .popSS => false
  | .popDS => false
  | .incR16 _ => false
  | .decR16 _ => false
  | .pushR16 _ => false
  | .popR16 _ => false
  | .jo _ => false
  | .jno _ => false
  | .jb _ => false
  | .jae _ => false
  | .je _ => false
  | .jne _ => false
  | .jbe _ => false
  | .ja _ => false
  | .js _ => false
  | .jns _ => false
  | .jp _ => false
  | .jnp _ => false
  | .jl _ => false
  | .jge _ => false
  | .jle _ => false
  | .jg _ => false
  | .addEbIb _ _ => false
  | .addEwIw _ _ => false
  | .addEwIbs _ _ => false
  | .orEbIb _ _ => false
  | .orEwIw _ _ => false
  | .orEwIbs _ _ => false
  | .adcEbIb _ _ => false
  | .adcEwIw _ _ => false
  | .adcEwIbs _ _ => false
  | .sbbEbIb _ _ => false
  | .sbbEwIw _ _ => false
  | .sbbEwIbs _ _ => false
  | .andEbIb _ _ => false
  | .andEwIw _ _ => false
  | .andEwIbs _ _ => false
  | .subEbIb _ _ => false
  | .subEwIw _ _ => false
  | .subEwIbs _ _ => false
  | .xorEbIb _ _ => false
  | .xorEwIw _ _ => false
  | .xorEwIbs _ _ => false
  | .cmpEbIb _ _ => false
  | .cmpEwIw _ _ => false
  | .cmpEwIbs _ _ => false
  | .testEbGb _ _ => false
  | .testEwGw _ _ => false
  | .xchgEbGb _ _ => false
  | .xchgEwGw _ _ => false
  | .movEbGb _ _ => false
  | .movEwGw _ _ => false
  | .movGbEb _ _ => false
  | .movGwEw _ _ => false
  | .movEwSw _ _ => false
  | .lea _ _ => false
  | .movESEw _ => false
  | .movSSEw _ => false
  | .movDSEw _ => false
  | .popEw _ => false
  | .nop => false
  | .xchgAXR16 _ => false
  | .cbw => false
  | .cwd => false
  | .callFar _ _ => false
  | .pushf => false
  | .popf => false
  | .sahf => false
  | .lahf => false
  | .movALMoffs _ => false
  | .movAXMoffs _ => false
  | .movMoffsAL _ => false
  | .movMoffsAX _ => false
  | .movsb => false
  | .movsw => false
  | .cmpsb => false
  | .cmpsw => false
  | .testALIb _ => false
  | .testAXIw _ => false
  | .stosb => false
  | .stosw => false
  | .lodsb => false
  | .lodsw => false
  | .scasb => false
  | .scasw => false
  | .movR8Ib _ _ => false
  | .movR16Iw _ _ => false
  | .rolEbCnt8 _ _ => false
  | .rorEbCnt8 _ _ => false
  | .rclEbCnt8 _ _ => false
  | .rcrEbCnt8 _ _ => false
  | .shlEbCnt8 _ _ => false
  | .shrEbCnt8 _ _ => false
  | .sarEbCnt8 _ _ => false
  | .rolEwCnt8 _ _ => false
  | .rorEwCnt8 _ _ => false
  | .rclEwCnt8 _ _ => false
  | .rcrEwCnt8 _ _ => false
  | .shlEwCnt8 _ _ => false
  | .shrEwCnt8 _ _ => false
  | .sarEwCnt8 _ _ => false
  | .rolEb1 _ => false
  | .rorEb1 _ => false
  | .rclEb1 _ => false
  | .rcrEb1 _ => false
  | .shlEb1 _ => false
  | .shrEb1 _ => false
  | .sarEb1 _ => false
  | .rolEw1 _ => false
  | .rorEw1 _ => false
  | .rclEw1 _ => false
  | .rcrEw1 _ => false
  | .shlEw1 _ => false
  | .shrEw1 _ => false
  | .sarEw1 _ => false
  | .rolEbCL _ => false
  | .rorEbCL _ => false
  | .rclEbCL _ => false
  | .rcrEbCL _ => false
  | .shlEbCL _ => false
  | .shrEbCL _ => false
  | .sarEbCL _ => false
  | .rolEwCL _ => false
  | .rorEwCL _ => false
  | .rclEwCL _ => false
  | .rcrEwCL _ => false
  | .shlEwCL _ => false
  | .shrEwCL _ => false
  | .sarEwCL _ => false
  | .retPop _ => false
  | .ret => false
  | .les _ _ => false
  | .lds _ _ => false
  | .movEbIb _ _ => false
  | .movEwIw _ _ => false
  | .retfPop _ => false
  | .retf => false
  | .int3 => false
  | .int _ => false
  | .into => false
  | .iret => false
  | .xlat => false
  | .loopne _ => false
  | .loope _ => false
  | .loop _ => false
  | .jcxz _ => false
  | .callRel16 _ => false
  | .jmpRel16 _ => false
  | .jmpFar _ _ => false
  | .jmpRel8 _ => false
  | .hlt => false
  | .cmc => false
  | .testEbIb _ _ => false
  | .testEwIw _ _ => false
  | .notEb _ => false
  | .notEw _ => false
  | .negEb _ => false
  | .negEw _ => false
  | .clc => false
  | .stc => false
  | .cli => false
  | .sti => false
  | .cld => false
  | .std => false
  | .incEb _ => false
  | .decEb _ => false
  | .incEw _ => false
  | .decEw _ => false
  | .callEw _ => false
  | .callFarM _ => false
  | .jmpEw _ => false
  | .jmpFarM _ => false
  | .pushEw _ => false
  | .segES => true
  | .segCS => true
  | .segSS => true
  | .segDS => true
  | .lock => true
  | .repne => true
  | .rep => true

end Sys2Proof
end

