-- ==== Sys2Proof/Decode.lean ====
section
/-! DEFINITION. The decoder (30_encoding R90 to R108): `decodeItem` reads one item (a prefix byte or an instruction
without its prefixes), `decodeBytes` a whole instruction with its prefixes (R102). Both are total on any bytes: they
answer the item and the bytes left, or `illegal` as soon as the bytes read so far show an illegal encoding (R106), or
`more` when the bytes given are a proper beginning. After them, in the same file, the encoder `encode`, written from the
same rules. -/

namespace Sys2Proof

/-! ## Register numbers (30_encoding R99) and base sums (R96) -/

/-- The 16-bit register numbered `n` (R99). -/
def Reg16.ofNum (n : BitVec 3) : Reg16 :=
  match n.toNat with
  | 0 => .ax | 1 => .cx | 2 => .dx | 3 => .bx | 4 => .sp | 5 => .bp | 6 => .si | _ => .di

/-- The number of a 16-bit register (R99). -/
def Reg16.num : Reg16 → BitVec 3
  | .ax => 0 | .cx => 1 | .dx => 2 | .bx => 3 | .sp => 4 | .bp => 5 | .si => 6 | .di => 7

/-- The 8-bit register numbered `n` (R99). -/
def Reg8.ofNum (n : BitVec 3) : Reg8 :=
  match n.toNat with
  | 0 => .al | 1 => .cl | 2 => .dl | 3 => .bl | 4 => .ah | 5 => .ch | 6 => .dh | _ => .bh

/-- The number of an 8-bit register (R99). -/
def Reg8.num : Reg8 → BitVec 3
  | .al => 0 | .cl => 1 | .dl => 2 | .bl => 3 | .ah => 4 | .ch => 5 | .dh => 6 | .bh => 7

/-- The segment register numbered `n`; 4 to 7 are illegal (R99). -/
def SReg.ofNum? (n : BitVec 3) : Option SReg :=
  match n.toNat with
  | 0 => some .es | 1 => some .cs | 2 => some .ss | 3 => some .ds | _ => none

/-- The number of a segment register (R99). -/
def SReg.num : SReg → BitVec 3
  | .es => 0 | .cs => 1 | .ss => 2 | .ds => 3

/-- The base sum that `rm` selects with `mod` 1 or 2, and with `mod` 0 for `rm` not 6 (R96). -/
def Base.ofNum (n : BitVec 3) : Base :=
  match n.toNat with
  | 0 => .bxsi | 1 => .bxdi | 2 => .bpsi | 3 => .bpdi | 4 => .si | 5 => .di | 6 => .bp | _ => .bx

/-- The `rm` value of a base sum (R96). -/
def Base.num : Base → BitVec 3
  | .bxsi => 0 | .bxdi => 1 | .bpsi => 2 | .bpdi => 3 | .si => 4 | .di => 5 | .bp => 6 | .bx => 7

/-! ## Reading a byte sequence -/

/-- The outcome of reading from a byte sequence. -/
inductive Parse (α : Type) where
  | more                             -- the bytes given end too soon
  | illegal                          -- an illegal encoding is recognised (R106)
  | got (a : α) (rest : List Byte)   -- what was read, and the bytes after it
deriving DecidableEq, Repr

/-- Read `p`, then go on with `f` on the bytes left. -/
def Parse.andThen {α β : Type} (p : Parse α) (f : α → List Byte → Parse β) : Parse β :=
  match p with
  | .more => .more
  | .illegal => .illegal
  | .got a rest => f a rest

/-- Read `p` and wrap it. -/
def Parse.wrap {α β : Type} (p : Parse α) (f : α → β) : Parse β := p.andThen fun a rest => .got (f a) rest

/-- The next byte. -/
def takeByte : List Byte → Parse Byte
  | [] => .more
  | b :: rest => .got b rest

/-- The next two bytes, low byte first (20_memory R60). -/
def takeWord : List Byte → Parse Word
  | lo :: hi :: rest => .got (wordOf lo hi) rest
  | _ => .more

/-- The memory operand of a ModRM byte with `mod` not 3, its displacement read from the bytes after it (R96, R97). -/
def takeMem (m : Byte) (bytes : List Byte) : Parse MemRef :=
  match (modField m).toNat with
  | 0 =>
    if rmField m = 6 then (takeWord bytes).wrap .direct
    else .got (.plain (Base.ofNum (rmField m))) bytes
  | 1 => (takeByte bytes).wrap (.disp8 (Base.ofNum (rmField m)))
  | _ => (takeWord bytes).wrap (.disp16 (Base.ofNum (rmField m)))

/-- The `Eb` operand of a ModRM byte (R96, R99). -/
def takeRm8 (m : Byte) (bytes : List Byte) : Parse Rm8 :=
  if modField m = 3 then .got (.reg (Reg8.ofNum (rmField m))) bytes else (takeMem m bytes).wrap .mem

/-- The `Ew` operand of a ModRM byte (R96, R99). -/
def takeRm16 (m : Byte) (bytes : List Byte) : Parse Rm16 :=
  if modField m = 3 then .got (.reg (Reg16.ofNum (rmField m))) bytes else (takeMem m bytes).wrap .mem

/-! ## The opcode map -/

/-- What follows a ModRM byte (R105, R108), or that its combination with the opcode is illegal (R106). -/
inductive ModForm where
  | illegal
  | eb (f : Rm8 → Instr)
  | ew (f : Rm16 → Instr)
  | m (f : MemRef → Instr)
  | ebIb (f : Rm8 → Byte → Instr)
  | ewIb (f : Rm16 → Byte → Instr)
  | ewIw (f : Rm16 → Word → Instr)

/-- What follows an opcode byte (R104, R108), or that it is illegal (R106). A ModRM form depends on `reg` and on
whether `mod` is 3. -/
inductive Form where
  | illegal
  | op (i : Instr)
  | ib (f : Byte → Instr)
  | iw (f : Word → Instr)
  | ptr (f : Word → Word → Instr)
  | modrm (f : BitVec 3 → Bool → ModForm)

/-! The opcodes whose ModRM `reg` field selects the operation (R105): each function answers what follows for that
value of `reg`; a value it does not list is illegal (R106). -/

/-- Opcode `80` (R105). -/
def group1Eb (reg : BitVec 3) (_isReg : Bool) : ModForm :=
  match reg.toNat with
  | 0 => .ebIb .addEbIb
  | 1 => .ebIb .orEbIb
  | 2 => .ebIb .adcEbIb
  | 3 => .ebIb .sbbEbIb
  | 4 => .ebIb .andEbIb
  | 5 => .ebIb .subEbIb
  | 6 => .ebIb .xorEbIb
  | 7 => .ebIb .cmpEbIb
  | _ => .illegal

/-- Opcode `81` (R105). -/
def group1Ew (reg : BitVec 3) (_isReg : Bool) : ModForm :=
  match reg.toNat with
  | 0 => .ewIw .addEwIw
  | 1 => .ewIw .orEwIw
  | 2 => .ewIw .adcEwIw
  | 3 => .ewIw .sbbEwIw
  | 4 => .ewIw .andEwIw
  | 5 => .ewIw .subEwIw
  | 6 => .ewIw .xorEwIw
  | 7 => .ewIw .cmpEwIw
  | _ => .illegal

/-- Opcode `83` (R105). -/
def group1Ews (reg : BitVec 3) (_isReg : Bool) : ModForm :=
  match reg.toNat with
  | 0 => .ewIb .addEwIbs
  | 1 => .ewIb .orEwIbs
  | 2 => .ewIb .adcEwIbs
  | 3 => .ewIb .sbbEwIbs
  | 4 => .ewIb .andEwIbs
  | 5 => .ewIb .subEwIbs
  | 6 => .ewIb .xorEwIbs
  | 7 => .ewIb .cmpEwIbs
  | _ => .illegal

/-- Opcode `8C` (R132): `reg` is a segment register; 4 to 7 are illegal. -/
def movFromSreg (reg : BitVec 3) (_isReg : Bool) : ModForm :=
  match SReg.ofNum? reg with
  | some sreg => .ew fun rm => .movEwSw rm sreg
  | none => .illegal

/-- Opcode `8E` (R105, R133). -/
def movSreg (reg : BitVec 3) (_isReg : Bool) : ModForm :=
  match reg.toNat with
  | 0 => .ew .movESEw
  | 2 => .ew .movSSEw
  | 3 => .ew .movDSEw
  | _ => .illegal

/-- Opcode `8F` (R105). -/
def group1A (reg : BitVec 3) (_isReg : Bool) : ModForm :=
  match reg.toNat with
  | 0 => .ew .popEw
  | _ => .illegal

/-- Opcode `C0` (R105). -/
def group2EbCnt8 (reg : BitVec 3) (_isReg : Bool) : ModForm :=
  match reg.toNat with
  | 0 => .ebIb .rolEbCnt8
  | 1 => .ebIb .rorEbCnt8
  | 2 => .ebIb .rclEbCnt8
  | 3 => .ebIb .rcrEbCnt8
  | 4 => .ebIb .shlEbCnt8
  | 5 => .ebIb .shrEbCnt8
  | 7 => .ebIb .sarEbCnt8
  | _ => .illegal

/-- Opcode `C1` (R105). -/
def group2EwCnt8 (reg : BitVec 3) (_isReg : Bool) : ModForm :=
  match reg.toNat with
  | 0 => .ewIb .rolEwCnt8
  | 1 => .ewIb .rorEwCnt8
  | 2 => .ewIb .rclEwCnt8
  | 3 => .ewIb .rcrEwCnt8
  | 4 => .ewIb .shlEwCnt8
  | 5 => .ewIb .shrEwCnt8
  | 7 => .ewIb .sarEwCnt8
  | _ => .illegal

/-- Opcode `C6` (R105). -/
def group11Eb (reg : BitVec 3) (_isReg : Bool) : ModForm :=
  match reg.toNat with
  | 0 => .ebIb .movEbIb
  | _ => .illegal

/-- Opcode `C7` (R105). -/
def group11Ew (reg : BitVec 3) (_isReg : Bool) : ModForm :=
  match reg.toNat with
  | 0 => .ewIw .movEwIw
  | _ => .illegal

/-- Opcode `D0` (R105). -/
def group2Eb1 (reg : BitVec 3) (_isReg : Bool) : ModForm :=
  match reg.toNat with
  | 0 => .eb .rolEb1
  | 1 => .eb .rorEb1
  | 2 => .eb .rclEb1
  | 3 => .eb .rcrEb1
  | 4 => .eb .shlEb1
  | 5 => .eb .shrEb1
  | 7 => .eb .sarEb1
  | _ => .illegal

/-- Opcode `D1` (R105). -/
def group2Ew1 (reg : BitVec 3) (_isReg : Bool) : ModForm :=
  match reg.toNat with
  | 0 => .ew .rolEw1
  | 1 => .ew .rorEw1
  | 2 => .ew .rclEw1
  | 3 => .ew .rcrEw1
  | 4 => .ew .shlEw1
  | 5 => .ew .shrEw1
  | 7 => .ew .sarEw1
  | _ => .illegal

/-- Opcode `D2` (R105). -/
def group2EbCL (reg : BitVec 3) (_isReg : Bool) : ModForm :=
  match reg.toNat with
  | 0 => .eb .rolEbCL
  | 1 => .eb .rorEbCL
  | 2 => .eb .rclEbCL
  | 3 => .eb .rcrEbCL
  | 4 => .eb .shlEbCL
  | 5 => .eb .shrEbCL
  | 7 => .eb .sarEbCL
  | _ => .illegal

/-- Opcode `D3` (R105). -/
def group2EwCL (reg : BitVec 3) (_isReg : Bool) : ModForm :=
  match reg.toNat with
  | 0 => .ew .rolEwCL
  | 1 => .ew .rorEwCL
  | 2 => .ew .rclEwCL
  | 3 => .ew .rcrEwCL
  | 4 => .ew .shlEwCL
  | 5 => .ew .shrEwCL
  | 7 => .ew .sarEwCL
  | _ => .illegal

/-- Opcode `F6` (R105). -/
def group3Eb (reg : BitVec 3) (_isReg : Bool) : ModForm :=
  match reg.toNat with
  | 0 => .ebIb .testEbIb
  | 2 => .eb .notEb
  | 3 => .eb .negEb
  | _ => .illegal

/-- Opcode `F7` (R105). -/
def group3Ew (reg : BitVec 3) (_isReg : Bool) : ModForm :=
  match reg.toNat with
  | 0 => .ewIw .testEwIw
  | 2 => .ew .notEw
  | 3 => .ew .negEw
  | _ => .illegal

/-- Opcode `FE` (R105). -/
def group4 (reg : BitVec 3) (_isReg : Bool) : ModForm :=
  match reg.toNat with
  | 0 => .eb .incEb
  | 1 => .eb .decEb
  | _ => .illegal

/-- Opcode `FF` (R105). -/
def group5 (reg : BitVec 3) (isReg : Bool) : ModForm :=
  match reg.toNat, isReg with
  | 0, _ => .ew .incEw
  | 1, _ => .ew .decEw
  | 2, _ => .ew .callEw
  | 3, false => .m .callFarM
  | 4, _ => .ew .jmpEw
  | 5, false => .m .jmpFarM
  | 6, _ => .ew .pushEw
  | _, _ => .illegal

/-- The complete map of the opcode byte (R104): the first byte of an item. Every opcode not listed is illegal (R106).
The prefix bytes (R92) are items of their own. -/
def opcodeForm (op : Byte) : Form :=
  match op.toNat with
  | 0x00 => .modrm fun reg _ => .eb fun rm => .addEbGb rm (Reg8.ofNum reg)
  | 0x01 => .modrm fun reg _ => .ew fun rm => .addEwGw rm (Reg16.ofNum reg)
  | 0x02 => .modrm fun reg _ => .eb (.addGbEb (Reg8.ofNum reg))
  | 0x03 => .modrm fun reg _ => .ew (.addGwEw (Reg16.ofNum reg))
  | 0x04 => .ib .addALIb
  | 0x05 => .iw .addAXIw
  | 0x06 => .op .pushES
  | 0x07 => .op .popES
  | 0x08 => .modrm fun reg _ => .eb fun rm => .orEbGb rm (Reg8.ofNum reg)
  | 0x09 => .modrm fun reg _ => .ew fun rm => .orEwGw rm (Reg16.ofNum reg)
  | 0x0A => .modrm fun reg _ => .eb (.orGbEb (Reg8.ofNum reg))
  | 0x0B => .modrm fun reg _ => .ew (.orGwEw (Reg16.ofNum reg))
  | 0x0C => .ib .orALIb
  | 0x0D => .iw .orAXIw
  | 0x0E => .op .pushCS
  | 0x10 => .modrm fun reg _ => .eb fun rm => .adcEbGb rm (Reg8.ofNum reg)
  | 0x11 => .modrm fun reg _ => .ew fun rm => .adcEwGw rm (Reg16.ofNum reg)
  | 0x12 => .modrm fun reg _ => .eb (.adcGbEb (Reg8.ofNum reg))
  | 0x13 => .modrm fun reg _ => .ew (.adcGwEw (Reg16.ofNum reg))
  | 0x14 => .ib .adcALIb
  | 0x15 => .iw .adcAXIw
  | 0x16 => .op .pushSS
  | 0x17 => .op .popSS
  | 0x18 => .modrm fun reg _ => .eb fun rm => .sbbEbGb rm (Reg8.ofNum reg)
  | 0x19 => .modrm fun reg _ => .ew fun rm => .sbbEwGw rm (Reg16.ofNum reg)
  | 0x1A => .modrm fun reg _ => .eb (.sbbGbEb (Reg8.ofNum reg))
  | 0x1B => .modrm fun reg _ => .ew (.sbbGwEw (Reg16.ofNum reg))
  | 0x1C => .ib .sbbALIb
  | 0x1D => .iw .sbbAXIw
  | 0x1E => .op .pushDS
  | 0x1F => .op .popDS
  | 0x20 => .modrm fun reg _ => .eb fun rm => .andEbGb rm (Reg8.ofNum reg)
  | 0x21 => .modrm fun reg _ => .ew fun rm => .andEwGw rm (Reg16.ofNum reg)
  | 0x22 => .modrm fun reg _ => .eb (.andGbEb (Reg8.ofNum reg))
  | 0x23 => .modrm fun reg _ => .ew (.andGwEw (Reg16.ofNum reg))
  | 0x24 => .ib .andALIb
  | 0x25 => .iw .andAXIw
  | 0x26 => .op .segES
  | 0x28 => .modrm fun reg _ => .eb fun rm => .subEbGb rm (Reg8.ofNum reg)
  | 0x29 => .modrm fun reg _ => .ew fun rm => .subEwGw rm (Reg16.ofNum reg)
  | 0x2A => .modrm fun reg _ => .eb (.subGbEb (Reg8.ofNum reg))
  | 0x2B => .modrm fun reg _ => .ew (.subGwEw (Reg16.ofNum reg))
  | 0x2C => .ib .subALIb
  | 0x2D => .iw .subAXIw
  | 0x2E => .op .segCS
  | 0x30 => .modrm fun reg _ => .eb fun rm => .xorEbGb rm (Reg8.ofNum reg)
  | 0x31 => .modrm fun reg _ => .ew fun rm => .xorEwGw rm (Reg16.ofNum reg)
  | 0x32 => .modrm fun reg _ => .eb (.xorGbEb (Reg8.ofNum reg))
  | 0x33 => .modrm fun reg _ => .ew (.xorGwEw (Reg16.ofNum reg))
  | 0x34 => .ib .xorALIb
  | 0x35 => .iw .xorAXIw
  | 0x36 => .op .segSS
  | 0x38 => .modrm fun reg _ => .eb fun rm => .cmpEbGb rm (Reg8.ofNum reg)
  | 0x39 => .modrm fun reg _ => .ew fun rm => .cmpEwGw rm (Reg16.ofNum reg)
  | 0x3A => .modrm fun reg _ => .eb (.cmpGbEb (Reg8.ofNum reg))
  | 0x3B => .modrm fun reg _ => .ew (.cmpGwEw (Reg16.ofNum reg))
  | 0x3C => .ib .cmpALIb
  | 0x3D => .iw .cmpAXIw
  | 0x3E => .op .segDS
  | 0x40 | 0x41 | 0x42 | 0x43 | 0x44 | 0x45 | 0x46 | 0x47 => .op (.incR16 (Reg16.ofNum (rmField op)))
  | 0x48 | 0x49 | 0x4A | 0x4B | 0x4C | 0x4D | 0x4E | 0x4F => .op (.decR16 (Reg16.ofNum (rmField op)))
  | 0x50 | 0x51 | 0x52 | 0x53 | 0x54 | 0x55 | 0x56 | 0x57 => .op (.pushR16 (Reg16.ofNum (rmField op)))
  | 0x58 | 0x59 | 0x5A | 0x5B | 0x5C | 0x5D | 0x5E | 0x5F => .op (.popR16 (Reg16.ofNum (rmField op)))
  | 0x70 => .ib .jo
  | 0x71 => .ib .jno
  | 0x72 => .ib .jb
  | 0x73 => .ib .jae
  | 0x74 => .ib .je
  | 0x75 => .ib .jne
  | 0x76 => .ib .jbe
  | 0x77 => .ib .ja
  | 0x78 => .ib .js
  | 0x79 => .ib .jns
  | 0x7A => .ib .jp
  | 0x7B => .ib .jnp
  | 0x7C => .ib .jl
  | 0x7D => .ib .jge
  | 0x7E => .ib .jle
  | 0x7F => .ib .jg
  | 0x80 => .modrm group1Eb
  | 0x81 => .modrm group1Ew
  | 0x83 => .modrm group1Ews
  | 0x84 => .modrm fun reg _ => .eb fun rm => .testEbGb rm (Reg8.ofNum reg)
  | 0x85 => .modrm fun reg _ => .ew fun rm => .testEwGw rm (Reg16.ofNum reg)
  | 0x86 => .modrm fun reg _ => .eb fun rm => .xchgEbGb rm (Reg8.ofNum reg)
  | 0x87 => .modrm fun reg _ => .ew fun rm => .xchgEwGw rm (Reg16.ofNum reg)
  | 0x88 => .modrm fun reg _ => .eb fun rm => .movEbGb rm (Reg8.ofNum reg)
  | 0x89 => .modrm fun reg _ => .ew fun rm => .movEwGw rm (Reg16.ofNum reg)
  | 0x8A => .modrm fun reg _ => .eb (.movGbEb (Reg8.ofNum reg))
  | 0x8B => .modrm fun reg _ => .ew (.movGwEw (Reg16.ofNum reg))
  | 0x8C => .modrm movFromSreg
  | 0x8D => .modrm fun reg isReg => if isReg then .illegal else .m (.lea (Reg16.ofNum reg))
  | 0x8E => .modrm movSreg
  | 0x8F => .modrm group1A
  | 0x90 => .op .nop
  | 0x91 | 0x92 | 0x93 | 0x94 | 0x95 | 0x96 | 0x97 => .op (.xchgAXR16 (Reg16.ofNum (rmField op)))
  | 0x98 => .op .cbw
  | 0x99 => .op .cwd
  | 0x9A => .ptr .callFar
  | 0x9C => .op .pushf
  | 0x9D => .op .popf
  | 0x9E => .op .sahf
  | 0x9F => .op .lahf
  | 0xA0 => .iw .movALMoffs
  | 0xA1 => .iw .movAXMoffs
  | 0xA2 => .iw .movMoffsAL
  | 0xA3 => .iw .movMoffsAX
  | 0xA4 => .op .movsb
  | 0xA5 => .op .movsw
  | 0xA6 => .op .cmpsb
  | 0xA7 => .op .cmpsw
  | 0xA8 => .ib .testALIb
  | 0xA9 => .iw .testAXIw
  | 0xAA => .op .stosb
  | 0xAB => .op .stosw
  | 0xAC => .op .lodsb
  | 0xAD => .op .lodsw
  | 0xAE => .op .scasb
  | 0xAF => .op .scasw
  | 0xB0 | 0xB1 | 0xB2 | 0xB3 | 0xB4 | 0xB5 | 0xB6 | 0xB7 => .ib (.movR8Ib (Reg8.ofNum (rmField op)))
  | 0xB8 | 0xB9 | 0xBA | 0xBB | 0xBC | 0xBD | 0xBE | 0xBF => .iw (.movR16Iw (Reg16.ofNum (rmField op)))
  | 0xC0 => .modrm group2EbCnt8
  | 0xC1 => .modrm group2EwCnt8
  | 0xC2 => .iw .retPop
  | 0xC3 => .op .ret
  | 0xC4 => .modrm fun reg isReg => if isReg then .illegal else .m (.les (Reg16.ofNum reg))
  | 0xC5 => .modrm fun reg isReg => if isReg then .illegal else .m (.lds (Reg16.ofNum reg))
  | 0xC6 => .modrm group11Eb
  | 0xC7 => .modrm group11Ew
  | 0xCA => .iw .retfPop
  | 0xCB => .op .retf
  | 0xCC => .op .int3
  | 0xCD => .ib .int
  | 0xCE => .op .into
  | 0xCF => .op .iret
  | 0xD0 => .modrm group2Eb1
  | 0xD1 => .modrm group2Ew1
  | 0xD2 => .modrm group2EbCL
  | 0xD3 => .modrm group2EwCL
  | 0xD7 => .op .xlat
  | 0xE0 => .ib .loopne
  | 0xE1 => .ib .loope
  | 0xE2 => .ib .loop
  | 0xE3 => .ib .jcxz
  | 0xE8 => .iw .callRel16
  | 0xE9 => .iw .jmpRel16
  | 0xEA => .ptr .jmpFar
  | 0xEB => .ib .jmpRel8
  | 0xF0 => .op .lock
  | 0xF2 => .op .repne
  | 0xF3 => .op .rep
  | 0xF4 => .op .hlt
  | 0xF5 => .op .cmc
  | 0xF6 => .modrm group3Eb
  | 0xF7 => .modrm group3Ew
  | 0xF8 => .op .clc
  | 0xF9 => .op .stc
  | 0xFA => .op .cli
  | 0xFB => .op .sti
  | 0xFC => .op .cld
  | 0xFD => .op .std
  | 0xFE => .modrm group4
  | 0xFF => .modrm group5
  | _ => .illegal

/-- What the bytes after a ModRM byte `m` give (R97, R100): displacement, then immediate. -/
def decodeMod (form : ModForm) (m : Byte) (bytes : List Byte) : Parse Instr :=
  match form with
  | .illegal => .illegal
  | .eb f => (takeRm8 m bytes).wrap f
  | .ew f => (takeRm16 m bytes).wrap f
  | .m f => (takeMem m bytes).wrap f
  | .ebIb f => (takeRm8 m bytes).andThen fun rm rest => (takeByte rest).wrap (f rm)
  | .ewIb f => (takeRm16 m bytes).andThen fun rm rest => (takeByte rest).wrap (f rm)
  | .ewIw f => (takeRm16 m bytes).andThen fun rm rest => (takeWord rest).wrap (f rm)

/-- What the bytes after an opcode give (R102). -/
def decodeForm (form : Form) (bytes : List Byte) : Parse Instr :=
  match form with
  | .illegal => .illegal
  | .op i => .got i bytes
  | .ib f => (takeByte bytes).wrap f
  | .iw f => (takeWord bytes).wrap f
  | .ptr f => (takeWord bytes).andThen fun off rest => (takeWord rest).wrap (f off)
  | .modrm f =>
    (takeByte bytes).andThen fun m rest => decodeMod (f (regField m) (modField m == 3)) m rest

/-- One item: a prefix byte, or an instruction without its prefixes (R102). -/
def decodeItem (bytes : List Byte) : Parse Instr :=
  (takeByte bytes).andThen fun op rest => decodeForm (opcodeForm op) rest

/-- A decoded instruction: its prefixes in the order fetched, and the instruction itself. -/
structure Decoded where
  prefixes : List Instr
  instr : Instr
deriving DecidableEq, Repr

/-- Decode with `n` more prefix bytes allowed after those in `seen` (R93, R102): one more prefix than allowed is an
illegal opcode. -/
def decodeFrom (n : Nat) (seen : List Instr) (bytes : List Byte) : Parse Decoded :=
  match decodeItem bytes with
  | .more => .more
  | .illegal => .illegal
  | .got i rest =>
    if i.isPrefix then
      match n with
      | 0 => .illegal
      | k + 1 => decodeFrom k (seen ++ [i]) rest
    else .got { prefixes := seen, instr := i } rest

/-- A whole instruction (R102): at most `Config.prefixMax` prefixes, then the instruction they belong to. -/
def decodeBytes (bytes : List Byte) : Parse Decoded := decodeFrom Config.prefixMax [] bytes

/-! ## The encoder -/

/-- The two bytes of a word, low byte first (20_memory R60). -/
def wordBytes (v : Word) : List Byte := [loByte v, hiByte v]

/-- ModRM byte and displacement of a memory operand (R96, R97). -/
def encodeMem (reg : BitVec 3) : MemRef → List Byte
  | .plain b => [modrmByte 0 reg b.num]
  | .direct d => modrmByte 0 reg 6 :: wordBytes d
  | .disp8 b d => [modrmByte 1 reg b.num, d]
  | .disp16 b d => modrmByte 2 reg b.num :: wordBytes d

/-- ModRM byte and displacement of an `Eb` operand (R96, R99). -/
def encodeRm8 (reg : BitVec 3) : Rm8 → List Byte
  | .reg r => [modrmByte 3 reg r.num]
  | .mem m => encodeMem reg m

/-- ModRM byte and displacement of an `Ew` operand (R96, R99). -/
def encodeRm16 (reg : BitVec 3) : Rm16 → List Byte
  | .reg r => [modrmByte 3 reg r.num]
  | .mem m => encodeMem reg m

/-- The opcode byte `base + r` (R95). -/
def opPlus (base : Byte) (r : BitVec 3) : Byte := base ||| r.setWidth 8

/-- The bytes of an item (R104, R105), without prefixes; the bytes of a prefix constructor are its one byte (R92). -/
def encode : Instr → List Byte
  | .addEbGb rm reg => 0x00 :: encodeRm8 reg.num rm
  | .addEwGw rm reg => 0x01 :: encodeRm16 reg.num rm
  | .addGbEb reg rm => 0x02 :: encodeRm8 reg.num rm
  | .addGwEw reg rm => 0x03 :: encodeRm16 reg.num rm
  | .addALIb imm => [0x04, imm]
  | .addAXIw imm => 0x05 :: wordBytes imm
  | .orEbGb rm reg => 0x08 :: encodeRm8 reg.num rm
  | .orEwGw rm reg => 0x09 :: encodeRm16 reg.num rm
  | .orGbEb reg rm => 0x0A :: encodeRm8 reg.num rm
  | .orGwEw reg rm => 0x0B :: encodeRm16 reg.num rm
  | .orALIb imm => [0x0C, imm]
  | .orAXIw imm => 0x0D :: wordBytes imm
  | .adcEbGb rm reg => 0x10 :: encodeRm8 reg.num rm
  | .adcEwGw rm reg => 0x11 :: encodeRm16 reg.num rm
  | .adcGbEb reg rm => 0x12 :: encodeRm8 reg.num rm
  | .adcGwEw reg rm => 0x13 :: encodeRm16 reg.num rm
  | .adcALIb imm => [0x14, imm]
  | .adcAXIw imm => 0x15 :: wordBytes imm
  | .sbbEbGb rm reg => 0x18 :: encodeRm8 reg.num rm
  | .sbbEwGw rm reg => 0x19 :: encodeRm16 reg.num rm
  | .sbbGbEb reg rm => 0x1A :: encodeRm8 reg.num rm
  | .sbbGwEw reg rm => 0x1B :: encodeRm16 reg.num rm
  | .sbbALIb imm => [0x1C, imm]
  | .sbbAXIw imm => 0x1D :: wordBytes imm
  | .andEbGb rm reg => 0x20 :: encodeRm8 reg.num rm
  | .andEwGw rm reg => 0x21 :: encodeRm16 reg.num rm
  | .andGbEb reg rm => 0x22 :: encodeRm8 reg.num rm
  | .andGwEw reg rm => 0x23 :: encodeRm16 reg.num rm
  | .andALIb imm => [0x24, imm]
  | .andAXIw imm => 0x25 :: wordBytes imm
  | .subEbGb rm reg => 0x28 :: encodeRm8 reg.num rm
  | .subEwGw rm reg => 0x29 :: encodeRm16 reg.num rm
  | .subGbEb reg rm => 0x2A :: encodeRm8 reg.num rm
  | .subGwEw reg rm => 0x2B :: encodeRm16 reg.num rm
  | .subALIb imm => [0x2C, imm]
  | .subAXIw imm => 0x2D :: wordBytes imm
  | .xorEbGb rm reg => 0x30 :: encodeRm8 reg.num rm
  | .xorEwGw rm reg => 0x31 :: encodeRm16 reg.num rm
  | .xorGbEb reg rm => 0x32 :: encodeRm8 reg.num rm
  | .xorGwEw reg rm => 0x33 :: encodeRm16 reg.num rm
  | .xorALIb imm => [0x34, imm]
  | .xorAXIw imm => 0x35 :: wordBytes imm
  | .cmpEbGb rm reg => 0x38 :: encodeRm8 reg.num rm
  | .cmpEwGw rm reg => 0x39 :: encodeRm16 reg.num rm
  | .cmpGbEb reg rm => 0x3A :: encodeRm8 reg.num rm
  | .cmpGwEw reg rm => 0x3B :: encodeRm16 reg.num rm
  | .cmpALIb imm => [0x3C, imm]
  | .cmpAXIw imm => 0x3D :: wordBytes imm
  | .pushES => [0x06]
  | .pushCS => [0x0E]
  | .pushSS => [0x16]
  | .pushDS => [0x1E]
  | .popES => [0x07]
  | .popSS => [0x17]
  | .popDS => [0x1F]
  | .incR16 reg => [opPlus 0x40 reg.num]
  | .decR16 reg => [opPlus 0x48 reg.num]
  | .pushR16 reg => [opPlus 0x50 reg.num]
  | .popR16 reg => [opPlus 0x58 reg.num]
  | .jo rel => [0x70, rel]
  | .jno rel => [0x71, rel]
  | .jb rel => [0x72, rel]
  | .jae rel => [0x73, rel]
  | .je rel => [0x74, rel]
  | .jne rel => [0x75, rel]
  | .jbe rel => [0x76, rel]
  | .ja rel => [0x77, rel]
  | .js rel => [0x78, rel]
  | .jns rel => [0x79, rel]
  | .jp rel => [0x7A, rel]
  | .jnp rel => [0x7B, rel]
  | .jl rel => [0x7C, rel]
  | .jge rel => [0x7D, rel]
  | .jle rel => [0x7E, rel]
  | .jg rel => [0x7F, rel]
  | .addEbIb rm imm => 0x80 :: (encodeRm8 0 rm ++ [imm])
  | .addEwIw rm imm => 0x81 :: (encodeRm16 0 rm ++ wordBytes imm)
  | .addEwIbs rm imm => 0x83 :: (encodeRm16 0 rm ++ [imm])
  | .orEbIb rm imm => 0x80 :: (encodeRm8 1 rm ++ [imm])
  | .orEwIw rm imm => 0x81 :: (encodeRm16 1 rm ++ wordBytes imm)
  | .orEwIbs rm imm => 0x83 :: (encodeRm16 1 rm ++ [imm])
  | .adcEbIb rm imm => 0x80 :: (encodeRm8 2 rm ++ [imm])
  | .adcEwIw rm imm => 0x81 :: (encodeRm16 2 rm ++ wordBytes imm)
  | .adcEwIbs rm imm => 0x83 :: (encodeRm16 2 rm ++ [imm])
  | .sbbEbIb rm imm => 0x80 :: (encodeRm8 3 rm ++ [imm])
  | .sbbEwIw rm imm => 0x81 :: (encodeRm16 3 rm ++ wordBytes imm)
  | .sbbEwIbs rm imm => 0x83 :: (encodeRm16 3 rm ++ [imm])
  | .andEbIb rm imm => 0x80 :: (encodeRm8 4 rm ++ [imm])
  | .andEwIw rm imm => 0x81 :: (encodeRm16 4 rm ++ wordBytes imm)
  | .andEwIbs rm imm => 0x83 :: (encodeRm16 4 rm ++ [imm])
  | .subEbIb rm imm => 0x80 :: (encodeRm8 5 rm ++ [imm])
  | .subEwIw rm imm => 0x81 :: (encodeRm16 5 rm ++ wordBytes imm)
  | .subEwIbs rm imm => 0x83 :: (encodeRm16 5 rm ++ [imm])
  | .xorEbIb rm imm => 0x80 :: (encodeRm8 6 rm ++ [imm])
  | .xorEwIw rm imm => 0x81 :: (encodeRm16 6 rm ++ wordBytes imm)
  | .xorEwIbs rm imm => 0x83 :: (encodeRm16 6 rm ++ [imm])
  | .cmpEbIb rm imm => 0x80 :: (encodeRm8 7 rm ++ [imm])
  | .cmpEwIw rm imm => 0x81 :: (encodeRm16 7 rm ++ wordBytes imm)
  | .cmpEwIbs rm imm => 0x83 :: (encodeRm16 7 rm ++ [imm])
  | .testEbGb rm reg => 0x84 :: encodeRm8 reg.num rm
  | .testEwGw rm reg => 0x85 :: encodeRm16 reg.num rm
  | .xchgEbGb rm reg => 0x86 :: encodeRm8 reg.num rm
  | .xchgEwGw rm reg => 0x87 :: encodeRm16 reg.num rm
  | .movEbGb rm reg => 0x88 :: encodeRm8 reg.num rm
  | .movEwGw rm reg => 0x89 :: encodeRm16 reg.num rm
  | .movGbEb reg rm => 0x8A :: encodeRm8 reg.num rm
  | .movGwEw reg rm => 0x8B :: encodeRm16 reg.num rm
  | .movEwSw rm sreg => 0x8C :: encodeRm16 sreg.num rm
  | .lea reg mem => 0x8D :: encodeMem reg.num mem
  | .movESEw rm => 0x8E :: encodeRm16 0 rm
  | .movSSEw rm => 0x8E :: encodeRm16 2 rm
  | .movDSEw rm => 0x8E :: encodeRm16 3 rm
  | .popEw rm => 0x8F :: encodeRm16 0 rm
  | .nop => [0x90]
  | .xchgAXR16 reg => [opPlus 0x90 reg.num]
  | .cbw => [0x98]
  | .cwd => [0x99]
  | .callFar off seg => 0x9A :: (wordBytes off ++ wordBytes seg)
  | .pushf => [0x9C]
  | .popf => [0x9D]
  | .sahf => [0x9E]
  | .lahf => [0x9F]
  | .movALMoffs moffs => 0xA0 :: wordBytes moffs
  | .movAXMoffs moffs => 0xA1 :: wordBytes moffs
  | .movMoffsAL moffs => 0xA2 :: wordBytes moffs
  | .movMoffsAX moffs => 0xA3 :: wordBytes moffs
  | .movsb => [0xA4]
  | .movsw => [0xA5]
  | .cmpsb => [0xA6]
  | .cmpsw => [0xA7]
  | .testALIb imm => [0xA8, imm]
  | .testAXIw imm => 0xA9 :: wordBytes imm
  | .stosb => [0xAA]
  | .stosw => [0xAB]
  | .lodsb => [0xAC]
  | .lodsw => [0xAD]
  | .scasb => [0xAE]
  | .scasw => [0xAF]
  | .movR8Ib reg imm => [opPlus 0xB0 reg.num, imm]
  | .movR16Iw reg imm => opPlus 0xB8 reg.num :: wordBytes imm
  | .rolEbCnt8 rm cnt => 0xC0 :: (encodeRm8 0 rm ++ [cnt])
  | .rorEbCnt8 rm cnt => 0xC0 :: (encodeRm8 1 rm ++ [cnt])
  | .rclEbCnt8 rm cnt => 0xC0 :: (encodeRm8 2 rm ++ [cnt])
  | .rcrEbCnt8 rm cnt => 0xC0 :: (encodeRm8 3 rm ++ [cnt])
  | .shlEbCnt8 rm cnt => 0xC0 :: (encodeRm8 4 rm ++ [cnt])
  | .shrEbCnt8 rm cnt => 0xC0 :: (encodeRm8 5 rm ++ [cnt])
  | .sarEbCnt8 rm cnt => 0xC0 :: (encodeRm8 7 rm ++ [cnt])
  | .rolEwCnt8 rm cnt => 0xC1 :: (encodeRm16 0 rm ++ [cnt])
  | .rorEwCnt8 rm cnt => 0xC1 :: (encodeRm16 1 rm ++ [cnt])
  | .rclEwCnt8 rm cnt => 0xC1 :: (encodeRm16 2 rm ++ [cnt])
  | .rcrEwCnt8 rm cnt => 0xC1 :: (encodeRm16 3 rm ++ [cnt])
  | .shlEwCnt8 rm cnt => 0xC1 :: (encodeRm16 4 rm ++ [cnt])
  | .shrEwCnt8 rm cnt => 0xC1 :: (encodeRm16 5 rm ++ [cnt])
  | .sarEwCnt8 rm cnt => 0xC1 :: (encodeRm16 7 rm ++ [cnt])
  | .rolEb1 rm => 0xD0 :: encodeRm8 0 rm
  | .rorEb1 rm => 0xD0 :: encodeRm8 1 rm
  | .rclEb1 rm => 0xD0 :: encodeRm8 2 rm
  | .rcrEb1 rm => 0xD0 :: encodeRm8 3 rm
  | .shlEb1 rm => 0xD0 :: encodeRm8 4 rm
  | .shrEb1 rm => 0xD0 :: encodeRm8 5 rm
  | .sarEb1 rm => 0xD0 :: encodeRm8 7 rm
  | .rolEw1 rm => 0xD1 :: encodeRm16 0 rm
  | .rorEw1 rm => 0xD1 :: encodeRm16 1 rm
  | .rclEw1 rm => 0xD1 :: encodeRm16 2 rm
  | .rcrEw1 rm => 0xD1 :: encodeRm16 3 rm
  | .shlEw1 rm => 0xD1 :: encodeRm16 4 rm
  | .shrEw1 rm => 0xD1 :: encodeRm16 5 rm
  | .sarEw1 rm => 0xD1 :: encodeRm16 7 rm
  | .rolEbCL rm => 0xD2 :: encodeRm8 0 rm
  | .rorEbCL rm => 0xD2 :: encodeRm8 1 rm
  | .rclEbCL rm => 0xD2 :: encodeRm8 2 rm
  | .rcrEbCL rm => 0xD2 :: encodeRm8 3 rm
  | .shlEbCL rm => 0xD2 :: encodeRm8 4 rm
  | .shrEbCL rm => 0xD2 :: encodeRm8 5 rm
  | .sarEbCL rm => 0xD2 :: encodeRm8 7 rm
  | .rolEwCL rm => 0xD3 :: encodeRm16 0 rm
  | .rorEwCL rm => 0xD3 :: encodeRm16 1 rm
  | .rclEwCL rm => 0xD3 :: encodeRm16 2 rm
  | .rcrEwCL rm => 0xD3 :: encodeRm16 3 rm
  | .shlEwCL rm => 0xD3 :: encodeRm16 4 rm
  | .shrEwCL rm => 0xD3 :: encodeRm16 5 rm
  | .sarEwCL rm => 0xD3 :: encodeRm16 7 rm
  | .retPop cnt => 0xC2 :: wordBytes cnt
  | .ret => [0xC3]
  | .les reg mem => 0xC4 :: encodeMem reg.num mem
  | .lds reg mem => 0xC5 :: encodeMem reg.num mem
  | .movEbIb rm imm => 0xC6 :: (encodeRm8 0 rm ++ [imm])
  | .movEwIw rm imm => 0xC7 :: (encodeRm16 0 rm ++ wordBytes imm)
  | .retfPop cnt => 0xCA :: wordBytes cnt
  | .retf => [0xCB]
  | .int3 => [0xCC]
  | .int vec => [0xCD, vec]
  | .into => [0xCE]
  | .iret => [0xCF]
  | .xlat => [0xD7]
  | .loopne rel => [0xE0, rel]
  | .loope rel => [0xE1, rel]
  | .loop rel => [0xE2, rel]
  | .jcxz rel => [0xE3, rel]
  | .callRel16 rel => 0xE8 :: wordBytes rel
  | .jmpRel16 rel => 0xE9 :: wordBytes rel
  | .jmpFar off seg => 0xEA :: (wordBytes off ++ wordBytes seg)
  | .jmpRel8 rel => [0xEB, rel]
  | .hlt => [0xF4]
  | .cmc => [0xF5]
  | .testEbIb rm imm => 0xF6 :: (encodeRm8 0 rm ++ [imm])
  | .testEwIw rm imm => 0xF7 :: (encodeRm16 0 rm ++ wordBytes imm)
  | .notEb rm => 0xF6 :: encodeRm8 2 rm
  | .notEw rm => 0xF7 :: encodeRm16 2 rm
  | .negEb rm => 0xF6 :: encodeRm8 3 rm
  | .negEw rm => 0xF7 :: encodeRm16 3 rm
  | .clc => [0xF8]
  | .stc => [0xF9]
  | .cli => [0xFA]
  | .sti => [0xFB]
  | .cld => [0xFC]
  | .std => [0xFD]
  | .incEb rm => 0xFE :: encodeRm8 0 rm
  | .decEb rm => 0xFE :: encodeRm8 1 rm
  | .incEw rm => 0xFF :: encodeRm16 0 rm
  | .decEw rm => 0xFF :: encodeRm16 1 rm
  | .callEw rm => 0xFF :: encodeRm16 2 rm
  | .callFarM mem => 0xFF :: encodeMem 3 mem
  | .jmpEw rm => 0xFF :: encodeRm16 4 rm
  | .jmpFarM mem => 0xFF :: encodeMem 5 mem
  | .pushEw rm => 0xFF :: encodeRm16 6 rm
  | .segES => [0x26]
  | .segCS => [0x2E]
  | .segSS => [0x36]
  | .segDS => [0x3E]
  | .lock => [0xF0]
  | .repne => [0xF2]
  | .rep => [0xF3]

/-- The bytes of an instruction with its prefixes (R90). -/
def encodeDecoded (d : Decoded) : List Byte := d.prefixes.flatMap encode ++ encode d.instr

/-! ## Words of the opcode table -/

/-- The longest instruction, in bytes (R90). -/
def maxLength : Nat := 10

/-- Byte `k` of an instruction whose bits are `w` as spec/opcode_table.json numbers them (R108): the table's word is
`key = {op, m}`, so the opcode byte is bits 15:8 and the byte after it bits 7:0; later bytes count on from bit 16 (log 8).
A row of one byte (`nbits` at most 8) is that byte alone. -/
def tableByte (nbits w k : Nat) : Byte :=
  let v := w % 2 ^ nbits
  if nbits ≤ 8 then (if k = 0 then BitVec.ofNat 8 v else 0)
  else match k with
    | 0 => BitVec.ofNat 8 (v / 2 ^ 8)
    | 1 => BitVec.ofNat 8 v
    | k => BitVec.ofNat 8 (v / 2 ^ (8 * k))

/-- The bytes of such an instruction, in the order they lie in memory, up to the longest instruction. -/
def tableBytes (nbits w : Nat) : List Byte := (List.range maxLength).map (tableByte nbits w)

/-- The item the decoder reads from such an instruction (log 8). -/
def decodeTableWord (nbits w : Nat) : Option Instr :=
  match decodeItem (tableBytes nbits w) with
  | .got i _ => some i
  | _ => none

end Sys2Proof
end

