-- ==== Sys2Proof/Machine/Fetch.lean ====
section
/-! DEFINITION. Instruction fetch (30_encoding R91, R102): one byte at a time through the Router at CS:pc, until the
bytes fetched decode to an instruction or show an illegal encoding. And the placing of code bytes where the next
instruction is fetched, which stands for a program loaded from outside (log 3). -/

namespace Sys2Proof.Machine

open Sys2Proof

/-- `Fetch8()` (30_encoding R91). -/
def fetch8 (s : State) : Byte × State :=
  let b := read8 (phys s.segs.cs s.pc) s
  (b.1, { b.2 with pc := b.2.pc + 1 })

/-- Fetch and decode (30_encoding R102): `bytes` are those fetched so far. None stands for `raise IllegalOpcode`. `fuel`
bounds the bytes still to come; with `maxLength` it never runs out (30_encoding R90, log 13). -/
def fetchFrom (fuel : Nat) (bytes : List Byte) (s : State) : Option Decoded × State :=
  match fuel with
  | 0 => (none, s)
  | fuel + 1 =>
    let b := fetch8 s
    match decodeBytes (bytes ++ [b.1]) with
    | .more => fetchFrom fuel (bytes ++ [b.1]) b.2
    | .illegal => (none, b.2)
    | .got d _ => (some d, b.2)

/-- Fetch and decode one instruction with its prefixes; `pc` ends as `pc_next` (10_state R24). -/
def fetchInstruction (s : State) : Option Decoded × State := fetchFrom maxLength [] s

/-- The physical addresses of the next `maxLength` code bytes. -/
def codeAddrs (s : State) : List Addr :=
  (List.range maxLength).map fun k => phys s.segs.cs (s.pc + BitVec.ofNat 16 k)

/-- The number of a store that no descriptor of the list names. -/
def freshStore (map : List Region) : Nat :=
  map.foldl (fun n d =>
    match d.target with
    | .ram m => max n (m + 1)
    | .rom m => max n (m + 1)
    | .handler _ _ _ => n) 0

/-- Set the store cells to the bytes, one each. -/
def fillCells (m : Memory) : List (Nat × Byte) → Memory
  | [] => m
  | (k, v) :: rest => fillCells (Memory.set m k v) rest

/-- Put a one-byte RAM region with a store of its own in front of MAP for each address, holding the byte given. -/
def coverAddrs (s : State) : List (Addr × Byte) → State
  | [] => s
  | (a, v) :: rest =>
    let n := freshStore s.map
    coverAddrs
      { s with
        map := { start := a, last := a, target := .ram n, mirror := 0 } :: s.map
        mem := Memory.set s.mem (cellOf n 0) v }
      rest

/-- Place code bytes where the next instruction is fetched: into the RAM or ROM cells those addresses select, or, where
they select no cells or share one, into one-byte RAM regions put in front of MAP. Ill-formed descriptors are dropped
and a halt is ended, since the fetch needs both (log 3). -/
def placeCode (bytes : List Byte) (s : State) : State :=
  let s1 := { s with map := s.map.filter regionWf, halted := false }
  let cells := (codeAddrs s1).filterMap (readCell s1.map)
  if cells.length = maxLength ∧ cells.Nodup then { s1 with mem := fillCells s1.mem (cells.zip bytes) }
  else coverAddrs s1 ((codeAddrs s1).zip bytes)

end Sys2Proof.Machine
end

