-- ==== Sys2Proof/Machine/Interrupts.lean ====
section
/-! DEFINITION. `InterruptCheck` (60_exceptions R328 to R331) and the end of a pass of the execute loop
(70_reset_and_hazards R371, R380). -/

namespace Sys2Proof.Machine

open Sys2Proof

/-- The vector of NMI (60_exceptions R320). -/
def nmiVector : Byte := 2#8

/-- Acceptance of NMI (60_exceptions R328): pending is cleared unless the line is level-latched and still 1. -/
def acceptNmi (s : State) : State :=
  let s1 := if s.latchNmi = .edge ∨ s.lineNmi = false then setPendingNmi false s else s
  trap nmiVector s1.pc { s1 with vector := nmiVector, halted := false }

/-- Acceptance of INT (60_exceptions R327, R328): `Ack()` is called once and gives the vector; the line is looked at as
it is after `Ack()`. -/
def acceptInt (s : State) : State :=
  let v := callDevice .ack s
  let s1 : State := { v.2 with vector := v.1 }
  let s2 := if s1.latchInt = .edge ∨ s1.lineInt = false then setPendingInt false s1 else s1
  trap v.1 s2.pc { s2 with halted := false }

/-- `InterruptCheck` (60_exceptions R328): whether an interrupt was accepted, and the state after it. -/
def interruptCheck (s : State) : Bool × State :=
  if s.noint then (false, { s with noint := false })
  else if pendingNmi s then (true, acceptNmi s)
  else if pendingInt s && getFlag .IF s.flags then (true, acceptInt s)
  else (false, s)

/-- A reset that a handler requested is applied (70_reset_and_hazards R371). -/
def settleReset (s : State) : State := if s.resetReq then applyReset s else s

/-- `InterruptCheck`, then a reset requested while an interrupt was accepted (70_reset_and_hazards R371, R380; log 6). -/
def checkAndSettle (s : State) : Bool × State :=
  let c := interruptCheck s
  (c.1, settleReset c.2)

/-- The end of an instruction (70_reset_and_hazards R380): a reset requested during it, in place of its InterruptCheck,
or the InterruptCheck. -/
def boundary (s : State) : Bool × State := if s.resetReq then (false, applyReset s) else checkAndSettle s

end Sys2Proof.Machine
end

