-- ==== Sys2Proof/Machine/Instruction.lean ====
section
/-! DEFINITION. `Instruction()` (70_reset_and_hazards R381) and one pass of the while body of R380. -/

namespace Sys2Proof.Machine

open Sys2Proof

/-- No prefix is in force at the start of an instruction (30_encoding R92), nor after its end. -/
def clearPrefixes (s : State) : State := { s with segov := none, rep := none }

/-- The instruction retires: `Hook(a)` is emitted (60_exceptions R339). -/
def retire (a : Addr) (s : State) : State := { clearPrefixes s with trace := s.trace ++ [a] }

/-- Run items one after another: the prefixes of an instruction, then the instruction. -/
def runItems (items : List Instr) (s : State) : Result :=
  match items with
  | [] => .next s
  | i :: rest =>
    match exec i s with
    | .next t => runItems rest t
    | .fault r => .fault r
    | .refused r => .refused r

/-- `Instruction()` (70_reset_and_hazards R381): what was decoded (none for an illegal opcode), and the state after the
instruction has retired. -/
def instruction (s : State) : Host.Outcome (Option Decoded × State) Fault Refusal :=
  let a := phys s.segs.cs s.pc
  let f := fetchInstruction (clearPrefixes s)
  match f.1 with
  | none => .next (none, retire a (illegalOpcode s.pc f.2))
  | some d =>
    match runItems (d.prefixes ++ [d.instr]) f.2 with
    | .next t => .next (some d, retire a t)
    | .fault r => .fault r
    | .refused r => .refused r

/-- What a pass of the execute loop did: ran an instruction (none: an illegal opcode), or looked for a wake-up. -/
inductive PassKind where
  | ran (d : Option Decoded)
  | idle
deriving DecidableEq, Repr

/-- One pass of the execute loop: what it did, whether it accepted an interrupt, the state after it. -/
structure Pass where
  kind : PassKind
  accepted : Bool
  state : State
deriving DecidableEq, Repr

/-- One pass of the while body of 70_reset_and_hazards R380. A MAP with an ill-formed descriptor is refused
(20_memory R52). -/
def onePass (s : State) : Host.Outcome Pass Fault Refusal :=
  if mapWf s.map = false then .refused .illFormedMap
  else if s.halted then
    .next { kind := .idle, accepted := (checkAndSettle s).1, state := (checkAndSettle s).2 }
  else
    match instruction s with
    | .next r => .next { kind := .ran r.1, accepted := (boundary r.2).1, state := (boundary r.2).2 }
    | .fault r => .fault r
    | .refused r => .refused r

end Sys2Proof.Machine
end

