-- ==== Sys2Proof/Machine/Step.lean ====
section
/-! DEFINITION. The step of the machine (70_reset_and_hazards R381: "`Step` of a model is one pass of the `while` body of
rule R380"), and the placing of one instruction where the next step fetches. -/

namespace Sys2Proof.Machine

open Sys2Proof

/-- One step: one instruction and its InterruptCheck, or one pass while halted. -/
def step (s : State) : Host.Outcome State Fault Refusal :=
  match onePass s with
  | .next p => .next p.state
  | .fault r => .fault r
  | .refused r => .refused r

/-- The state with the instruction whose bits are `w` (numbered as spec/opcode_table.json numbers them, log 8) stored
where the next step fetches (log 3). -/
def State.withFetchWord (s : State) (nbits w : Nat) : State := placeCode (tableBytes nbits w) s

end Sys2Proof.Machine
end

