-- ==== Sys2Proof/Machine/HostInterface.lean ====
section
/-! DEFINITION. The host's entry points (60_exceptions R342): `execute`, register access by index, MAP registration,
machine reset, the halted flag. `set_irq_line` is `setIrqLine` of Machine/Irq.lean. They are called between steps only
(10_state R39). -/

namespace Sys2Proof.Machine

open Sys2Proof

/-- `COST(i)` (none: an instruction that was an illegal opcode) and `COST_INT` (70_reset_and_hazards R384): an argument
of the model, positive integers (log 11). -/
structure Costs where
  instr : Option Decoded → Nat
  accept : Nat

/-- The default costs (70_reset_and_hazards R384): 1 and 1. -/
def unitCosts : Costs := { instr := fun _ => 1, accept := 1 }

/-- What a pass adds to `consumed` (70_reset_and_hazards R380). -/
def passCost (c : Costs) (p : Pass) : Nat :=
  let ran := match p.kind with
    | .ran d => c.instr d
    | .idle => 0
  ran + (if p.accepted then c.accept else 0)

/-- The loop of `execute` (70_reset_and_hazards R380). `fuel` bounds the passes: with positive costs `cycles` passes are
enough, since each pass that goes on consumes at least 1 (log 13). -/
def executeFrom (c : Costs) (cycles fuel consumed : Nat) (s : State) : Host.Outcome (Nat × State) Fault Refusal :=
  match fuel with
  | 0 => .next (consumed, s)
  | fuel + 1 =>
    if consumed < cycles then
      match onePass s with
      | .next p =>
        if p.kind = .idle ∧ p.accepted = false then .next (cycles, p.state)
        else executeFrom c cycles fuel (consumed + passCost c p) p.state
      | .fault r => .fault r
      | .refused r => .refused r
    else .next (consumed, s)

/-- `execute(cycles) -> cycles_consumed` (70_reset_and_hazards R380); zero or a negative count does nothing and returns
0. -/
def execute (c : Costs) (cycles : Int) (s : State) : Host.Outcome (Nat × State) Fault Refusal :=
  executeFrom c cycles.toNat cycles.toNat 0 s

/-- Machine reset by the host, between slices (70_reset_and_hazards R371). -/
def hostReset (s : State) : State := applyReset s

/-- The halted flag (10_state R34). -/
def haltedFlag (s : State) : Bool := s.halted

/-- Host read of a register by index (10_state R39), zero-extended; an index outside 0..15 reads 0. -/
def readRegister (index : Nat) (s : State) : Nat :=
  match index with
  | 0 => s.pc.toNat
  | 1 => s.regs.ax.toNat
  | 2 => s.regs.cx.toNat
  | 3 => s.regs.dx.toNat
  | 4 => s.regs.bx.toNat
  | 5 => s.regs.sp.toNat
  | 6 => s.regs.bp.toNat
  | 7 => s.regs.si.toNat
  | 8 => s.regs.di.toNat
  | 9 => s.flags.toNat
  | 10 => s.segs.es.toNat
  | 11 => s.segs.cs.toNat
  | 12 => s.segs.ss.toNat
  | 13 => s.segs.ds.toNat
  | 14 => s.vector.toNat
  | 15 => s.pending.toNat
  | _ => 0

/-- Host write of a register by index (10_state R39); a write to an index outside 0..15 is dropped. -/
def writeRegister (index : Nat) (v : Nat) (s : State) : State :=
  match index with
  | 0 => setPc (BitVec.ofNat 16 v) s
  | 1 => setReg16 .ax (BitVec.ofNat 16 v) s
  | 2 => setReg16 .cx (BitVec.ofNat 16 v) s
  | 3 => setReg16 .dx (BitVec.ofNat 16 v) s
  | 4 => setReg16 .bx (BitVec.ofNat 16 v) s
  | 5 => setReg16 .sp (BitVec.ofNat 16 v) s
  | 6 => setReg16 .bp (BitVec.ofNat 16 v) s
  | 7 => setReg16 .si (BitVec.ofNat 16 v) s
  | 8 => setReg16 .di (BitVec.ofNat 16 v) s
  | 9 => setFlags (wholeFlags (BitVec.ofNat 16 v)) s
  | 10 => setSreg .es (BitVec.ofNat 16 v) s
  | 11 => setSreg .cs (BitVec.ofNat 16 v) s
  | 12 => setSreg .ss (BitVec.ofNat 16 v) s
  | 13 => setSreg .ds (BitVec.ofNat 16 v) s
  | 14 => { s with vector := BitVec.ofNat 8 v }
  | 15 => { s with pending := BitVec.ofNat 2 v }
  | _ => s

/-- The host replaces MAP between slices (20_memory R78); a MAP with an ill-formed descriptor is refused (R52). -/
def setMap (map : List Region) (s : State) : Result :=
  if mapWf map then .next { s with map := map } else .refused .illFormedMap

end Sys2Proof.Machine
end

