-- ==== Sys2Proof/Safety.lean ====
section
/-! DEFINITION. What statements say of states: the invariant between steps, the contents of memory as a program sees
them, and the frames: which registers, flags, segment registers and bytes of memory each instruction writes. -/

namespace Sys2Proof.Machine

open Sys2Proof

/-! ## Invariant and unchanged state -/

/-- Nothing of an instruction is left between steps (10_state R38): no prefix in force, no window open, no reset request
waiting. -/
abbrev State.Settled (s : State) : Prop :=
  s.segov = none ∧ s.rep = none ∧ s.noint = false ∧ s.resetReq = false

/-- The invariant of the machine between steps: FLAGS has its fixed bits (10_state R27), memory is in canonical form,
and nothing of an instruction is left (10_state R38). -/
abbrev State.Inv (s : State) : Prop :=
  FlagsFixed s.flags ∧ Memory.wf s.mem = true ∧ s.Settled

/-- The platform parameters are the same (10_state R38, 20_memory R78). -/
abbrev SamePlatform (s t : State) : Prop :=
  t.map = s.map ∧ t.latchInt = s.latchInt ∧ t.latchNmi = s.latchNmi

/-- What only handler calls change within an instruction is the same (60_exceptions R333): lines, PENDING, the reset
request, the device script and log. -/
abbrev SameController (s t : State) : Prop :=
  t.pending = s.pending ∧ t.lineInt = s.lineInt ∧ t.lineNmi = s.lineNmi ∧ t.resetReq = s.resetReq ∧
    t.devScript = s.devScript ∧ t.devLog = s.devLog

/-- What no instruction writes at all is the same: VECTOR, the platform, the trace. -/
abbrev SameOutside (s t : State) : Prop := t.vector = s.vector ∧ SamePlatform s t ∧ t.trace = s.trace

/-! ## Memory as a program sees it -/

/-- The physical addresses of the `n` bytes at `j:off`; the offsets wrap inside the segment (20_memory R63). -/
def segBytes (j : SReg) (off : Word) (n : Nat) (s : State) : List Addr :=
  (List.range n).map fun k => phys (s.sreg j) (off + BitVec.ofNat 16 k)

/-- None of the addresses selects a handler region, so reading them calls no device. -/
def quiet (as : List Addr) (s : State) : Bool := as.all fun a => !isDevice s.map a

/-- Every address selects RAM, and no two of them the same byte of a store. -/
def onRam (as : List Addr) (s : State) : Bool :=
  as.all (fun a => (writeCell s.map a).isSome) && decide (as.map (writeCell s.map)).Nodup

/-- The byte at `j:off`, read without any effect. -/
def peekByte (j : SReg) (off : Word) (s : State) : Byte := peek8 (phys (s.sreg j) off) s

/-- The word at `j:off`, read without any effect (20_memory R63). -/
def peekWord (j : SReg) (off : Word) (s : State) : Word := wordOf (peekByte j off s) (peekByte j (off + 1) s)

/-- The bytes stand at consecutive offsets from `j:off`. -/
def bytesAt (j : SReg) (off : Word) (bytes : List Byte) (s : State) : Prop :=
  ∀ k, (h : k < bytes.length) → peekByte j (off + BitVec.ofNat 16 k) s = bytes[k]

/-! ## What each instruction writes -/

/-- The register an `Eb` operand is, if it is one. -/
def rmReg8 : Rm8 → List Reg8
  | .reg r => [r]
  | .mem _ => []

/-- The register an `Ew` operand is, if it is one. -/
def rmReg16 : Rm16 → List Reg16
  | .reg r => [r]
  | .mem _ => []

/-- The byte an `Eb` operand is in memory, if it is there. -/
def rmStore8 (rm : Rm8) (s : State) : List Addr :=
  match rm with
  | .reg _ => []
  | .mem m => segBytes (eaSeg m s) (eaOff m s) 1 s

/-- The bytes an `Ew` operand is in memory, if it is there. -/
def rmStore16 (rm : Rm16) (s : State) : List Addr :=
  match rm with
  | .reg _ => []
  | .mem m => segBytes (eaSeg m s) (eaOff m s) 2 s

/-- CX, where a repeat prefix is in force (44_string R241). -/
def repCx (s : State) : List Reg16 := if s.rep.isSome then [.cx] else []

/-- How many elements MOVS, STOS and LODS process (44_string R241). -/
def elementCount (s : State) : Nat := if s.rep.isSome then s.regs.cx.toNat else 1

/-- The addresses of the destination elements of MOVS and STOS, `n` bytes each (44_string R240 to R244). -/
def elementBytes (n : Nat) (s : State) : List Addr :=
  (List.range (elementCount s)).flatMap fun k =>
    segBytes .es (s.regs.di + BitVec.ofNat 16 k * stringDelta (BitVec.ofNat 16 n) s.flags) n s

/-- The six status flags (10_state R26). -/
def statusFlags : List Flag := [.CF, .PF, .AF, .ZF, .SF, .OF]

/-- All nine flags (10_state R26). -/
def allFlags : List Flag := [.CF, .PF, .AF, .ZF, .SF, .TF, .IF, .DF, .OF]

/-- What CMPS and SCAS write: nothing where they process no element (44_string R241). -/
def comparedFlags (s : State) : List Flag := if s.rep.isSome ∧ s.regs.cx = 0 then [] else statusFlags

/-- What a rotate by a raw count writes (43_shift_rotate R220, R222). -/
def rotateFlags (raw : Byte) : List Flag := if shiftCount raw = 0 then [] else [.CF, .OF]

/-- What a shift by a raw count writes (43_shift_rotate R220, R222). -/
def shiftedFlags (raw : Byte) : List Flag := if shiftCount raw = 0 then [] else [.CF, .OF, .SF, .ZF, .PF]


/-- What an instruction may write: 8-bit registers as such, 16-bit registers as a whole (the implicit ones of 10_state R22
among them), segment registers (R30), flags (R28), the physical addresses it stores to, whether it is a control transfer
(R24), whether it opens the interrupt-disabled window (R35). What is not named is not written. -/
structure Effects where
  regs8 : List Reg8 := []
  regs16 : List Reg16 := []
  sregs : List SReg := []
  flags : List Flag := []
  stores : List Addr := []
  jumps : Bool := false
  window : Bool := false
deriving DecidableEq, Repr

/-- What each instruction may write when it runs in the state `s` (40_data_transfer to 46_processor_control). -/
def effects (i : Instr) (s : State) : Effects :=
  match i with
  | .addEbGb rm _ => { regs8 := rmReg8 rm, flags := statusFlags, stores := rmStore8 rm s }
  | .addEwGw rm _ => { regs16 := rmReg16 rm, flags := statusFlags, stores := rmStore16 rm s }
  | .addGbEb reg _ => { regs8 := [reg], flags := statusFlags }
  | .addGwEw reg _ => { regs16 := [reg], flags := statusFlags }
  | .addALIb _ => { regs8 := [.al], flags := statusFlags }
  | .addAXIw _ => { regs16 := [.ax], flags := statusFlags }
  | .orEbGb rm _ => { regs8 := rmReg8 rm, flags := statusFlags, stores := rmStore8 rm s }
  | .orEwGw rm _ => { regs16 := rmReg16 rm, flags := statusFlags, stores := rmStore16 rm s }
  | .orGbEb reg _ => { regs8 := [reg], flags := statusFlags }
  | .orGwEw reg _ => { regs16 := [reg], flags := statusFlags }
  | .orALIb _ => { regs8 := [.al], flags := statusFlags }
  | .orAXIw _ => { regs16 := [.ax], flags := statusFlags }
  | .adcEbGb rm _ => { regs8 := rmReg8 rm, flags := statusFlags, stores := rmStore8 rm s }
  | .adcEwGw rm _ => { regs16 := rmReg16 rm, flags := statusFlags, stores := rmStore16 rm s }
  | .adcGbEb reg _ => { regs8 := [reg], flags := statusFlags }
  | .adcGwEw reg _ => { regs16 := [reg], flags := statusFlags }
  | .adcALIb _ => { regs8 := [.al], flags := statusFlags }
  | .adcAXIw _ => { regs16 := [.ax], flags := statusFlags }
  | .sbbEbGb rm _ => { regs8 := rmReg8 rm, flags := statusFlags, stores := rmStore8 rm s }
  | .sbbEwGw rm _ => { regs16 := rmReg16 rm, flags := statusFlags, stores := rmStore16 rm s }
  | .sbbGbEb reg _ => { regs8 := [reg], flags := statusFlags }
  | .sbbGwEw reg _ => { regs16 := [reg], flags := statusFlags }
  | .sbbALIb _ => { regs8 := [.al], flags := statusFlags }
  | .sbbAXIw _ => { regs16 := [.ax], flags := statusFlags }
  | .andEbGb rm _ => { regs8 := rmReg8 rm, flags := statusFlags, stores := rmStore8 rm s }
  | .andEwGw rm _ => { regs16 := rmReg16 rm, flags := statusFlags, stores := rmStore16 rm s }
  | .andGbEb reg _ => { regs8 := [reg], flags := statusFlags }
  | .andGwEw reg _ => { regs16 := [reg], flags := statusFlags }
  | .andALIb _ => { regs8 := [.al], flags := statusFlags }
  | .andAXIw _ => { regs16 := [.ax], flags := statusFlags }
  | .subEbGb rm _ => { regs8 := rmReg8 rm, flags := statusFlags, stores := rmStore8 rm s }
  | .subEwGw rm _ => { regs16 := rmReg16 rm, flags := statusFlags, stores := rmStore16 rm s }
  | .subGbEb reg _ => { regs8 := [reg], flags := statusFlags }
  | .subGwEw reg _ => { regs16 := [reg], flags := statusFlags }
  | .subALIb _ => { regs8 := [.al], flags := statusFlags }
  | .subAXIw _ => { regs16 := [.ax], flags := statusFlags }
  | .xorEbGb rm _ => { regs8 := rmReg8 rm, flags := statusFlags, stores := rmStore8 rm s }
  | .xorEwGw rm _ => { regs16 := rmReg16 rm, flags := statusFlags, stores := rmStore16 rm s }
  | .xorGbEb reg _ => { regs8 := [reg], flags := statusFlags }
  | .xorGwEw reg _ => { regs16 := [reg], flags := statusFlags }
  | .xorALIb _ => { regs8 := [.al], flags := statusFlags }
  | .xorAXIw _ => { regs16 := [.ax], flags := statusFlags }
  | .cmpEbGb _ _ => { flags := statusFlags }
  | .cmpEwGw _ _ => { flags := statusFlags }
  | .cmpGbEb _ _ => { flags := statusFlags }
  | .cmpGwEw _ _ => { flags := statusFlags }
  | .cmpALIb _ => { flags := statusFlags }
  | .cmpAXIw _ => { flags := statusFlags }
  | .pushES => { regs16 := [.sp], stores := segBytes .ss (s.regs.sp - 2) 2 s }
  | .pushCS => { regs16 := [.sp], stores := segBytes .ss (s.regs.sp - 2) 2 s }
  | .pushSS => { regs16 := [.sp], stores := segBytes .ss (s.regs.sp - 2) 2 s }
  | .pushDS => { regs16 := [.sp], stores := segBytes .ss (s.regs.sp - 2) 2 s }
  | .popES => { regs16 := [.sp], sregs := [.es], window := true }
  | .popSS => { regs16 := [.sp], sregs := [.ss], window := true }
  | .popDS => { regs16 := [.sp], sregs := [.ds], window := true }
  | .incR16 reg => { regs16 := [reg], flags := [.PF, .AF, .ZF, .SF, .OF] }
  | .decR16 reg => { regs16 := [reg], flags := [.PF, .AF, .ZF, .SF, .OF] }
  | .pushR16 _ => { regs16 := [.sp], stores := segBytes .ss (s.regs.sp - 2) 2 s }
  | .popR16 reg => { regs16 := [.sp, reg] }
  | .jo _ => { jumps := true }
  | .jno _ => { jumps := true }
  | .jb _ => { jumps := true }
  | .jae _ => { jumps := true }
  | .je _ => { jumps := true }
  | .jne _ => { jumps := true }
  | .jbe _ => { jumps := true }
  | .ja _ => { jumps := true }
  | .js _ => { jumps := true }
  | .jns _ => { jumps := true }
  | .jp _ => { jumps := true }
  | .jnp _ => { jumps := true }
  | .jl _ => { jumps := true }
  | .jge _ => { jumps := true }
  | .jle _ => { jumps := true }
  | .jg _ => { jumps := true }
  | .addEbIb rm _ => { regs8 := rmReg8 rm, flags := statusFlags, stores := rmStore8 rm s }
  | .addEwIw rm _ => { regs16 := rmReg16 rm, flags := statusFlags, stores := rmStore16 rm s }
  | .addEwIbs rm _ => { regs16 := rmReg16 rm, flags := statusFlags, stores := rmStore16 rm s }
  | .orEbIb rm _ => { regs8 := rmReg8 rm, flags := statusFlags, stores := rmStore8 rm s }
  | .orEwIw rm _ => { regs16 := rmReg16 rm, flags := statusFlags, stores := rmStore16 rm s }
  | .orEwIbs rm _ => { regs16 := rmReg16 rm, flags := statusFlags, stores := rmStore16 rm s }
  | .adcEbIb rm _ => { regs8 := rmReg8 rm, flags := statusFlags, stores := rmStore8 rm s }
  | .adcEwIw rm _ => { regs16 := rmReg16 rm, flags := statusFlags, stores := rmStore16 rm s }
  | .adcEwIbs rm _ => { regs16 := rmReg16 rm, flags := statusFlags, stores := rmStore16 rm s }
  | .sbbEbIb rm _ => { regs8 := rmReg8 rm, flags := statusFlags, stores := rmStore8 rm s }
  | .sbbEwIw rm _ => { regs16 := rmReg16 rm, flags := statusFlags, stores := rmStore16 rm s }
  | .sbbEwIbs rm _ => { regs16 := rmReg16 rm, flags := statusFlags, stores := rmStore16 rm s }
  | .andEbIb rm _ => { regs8 := rmReg8 rm, flags := statusFlags, stores := rmStore8 rm s }
  | .andEwIw rm _ => { regs16 := rmReg16 rm, flags := statusFlags, stores := rmStore16 rm s }
  | .andEwIbs rm _ => { regs16 := rmReg16 rm, flags := statusFlags, stores := rmStore16 rm s }
  | .subEbIb rm _ => { regs8 := rmReg8 rm, flags := statusFlags, stores := rmStore8 rm s }
  | .subEwIw rm _ => { regs16 := rmReg16 rm, flags := statusFlags, stores := rmStore16 rm s }
  | .subEwIbs rm _ => { regs16 := rmReg16 rm, flags := statusFlags, stores := rmStore16 rm s }
  | .xorEbIb rm _ => { regs8 := rmReg8 rm, flags := statusFlags, stores := rmStore8 rm s }
  | .xorEwIw rm _ => { regs16 := rmReg16 rm, flags := statusFlags, stores := rmStore16 rm s }
  | .xorEwIbs rm _ => { regs16 := rmReg16 rm, flags := statusFlags, stores := rmStore16 rm s }
  | .cmpEbIb _ _ => { flags := statusFlags }
  | .cmpEwIw _ _ => { flags := statusFlags }
  | .cmpEwIbs _ _ => { flags := statusFlags }
  | .testEbGb _ _ => { flags := statusFlags }
  | .testEwGw _ _ => { flags := statusFlags }
  | .xchgEbGb rm reg => { regs8 := reg :: rmReg8 rm, stores := rmStore8 rm s }
  | .xchgEwGw rm reg => { regs16 := reg :: rmReg16 rm, stores := rmStore16 rm s }
  | .movEbGb rm _ => { regs8 := rmReg8 rm, stores := rmStore8 rm s }
  | .movEwGw rm _ => { regs16 := rmReg16 rm, stores := rmStore16 rm s }
  | .movGbEb reg _ => { regs8 := [reg] }
  | .movGwEw reg _ => { regs16 := [reg] }
  | .movEwSw rm _ => { regs16 := rmReg16 rm, stores := rmStore16 rm s }
  | .lea reg _ => { regs16 := [reg] }
  | .movESEw _ => { sregs := [.es], window := true }
  | .movSSEw _ => { sregs := [.ss], window := true }
  | .movDSEw _ => { sregs := [.ds], window := true }
  | .popEw rm => { regs16 := .sp :: rmReg16 rm, stores := rmStore16 rm s }
  | .nop => { }
  | .xchgAXR16 reg => { regs16 := [.ax, reg] }
  | .cbw => { regs16 := [.ax] }
  | .cwd => { regs16 := [.dx] }
  | .callFar _ _ => { regs16 := [.sp], sregs := [.cs], stores := segBytes .ss (s.regs.sp - 4) 4 s, jumps := true }
  | .pushf => { regs16 := [.sp], stores := segBytes .ss (s.regs.sp - 2) 2 s }
  | .popf => { regs16 := [.sp], flags := allFlags }
  | .sahf => { flags := [.CF, .PF, .AF, .ZF, .SF] }
  | .lahf => { regs8 := [.ah] }
  | .movALMoffs _ => { regs8 := [.al] }
  | .movAXMoffs _ => { regs16 := [.ax] }
  | .movMoffsAL moffs => { stores := segBytes (overridden .ds s) moffs 1 s }
  | .movMoffsAX moffs => { stores := segBytes (overridden .ds s) moffs 2 s }
  | .movsb => { regs16 := .si :: .di :: repCx s, stores := elementBytes 1 s }
  | .movsw => { regs16 := .si :: .di :: repCx s, stores := elementBytes 2 s }
  | .cmpsb => { regs16 := .si :: .di :: repCx s, flags := comparedFlags s }
  | .cmpsw => { regs16 := .si :: .di :: repCx s, flags := comparedFlags s }
  | .testALIb _ => { flags := statusFlags }
  | .testAXIw _ => { flags := statusFlags }
  | .stosb => { regs16 := .di :: repCx s, stores := elementBytes 1 s }
  | .stosw => { regs16 := .di :: repCx s, stores := elementBytes 2 s }
  | .lodsb => { regs8 := [.al], regs16 := .si :: repCx s }
  | .lodsw => { regs16 := .ax :: .si :: repCx s }
  | .scasb => { regs16 := .di :: repCx s, flags := comparedFlags s }
  | .scasw => { regs16 := .di :: repCx s, flags := comparedFlags s }
  | .movR8Ib reg _ => { regs8 := [reg] }
  | .movR16Iw reg _ => { regs16 := [reg] }
  | .rolEbCnt8 rm cnt =>
    { regs8 := rmReg8 rm, flags := rotateFlags cnt, stores := if shiftCount cnt = 0 then [] else rmStore8 rm s }
  | .rorEbCnt8 rm cnt =>
    { regs8 := rmReg8 rm, flags := rotateFlags cnt, stores := if shiftCount cnt = 0 then [] else rmStore8 rm s }
  | .rclEbCnt8 rm cnt =>
    { regs8 := rmReg8 rm, flags := rotateFlags cnt, stores := if shiftCount cnt = 0 then [] else rmStore8 rm s }
  | .rcrEbCnt8 rm cnt =>
    { regs8 := rmReg8 rm, flags := rotateFlags cnt, stores := if shiftCount cnt = 0 then [] else rmStore8 rm s }
  | .shlEbCnt8 rm cnt =>
    { regs8 := rmReg8 rm, flags := shiftedFlags cnt, stores := if shiftCount cnt = 0 then [] else rmStore8 rm s }
  | .shrEbCnt8 rm cnt =>
    { regs8 := rmReg8 rm, flags := shiftedFlags cnt, stores := if shiftCount cnt = 0 then [] else rmStore8 rm s }
  | .sarEbCnt8 rm cnt =>
    { regs8 := rmReg8 rm, flags := shiftedFlags cnt, stores := if shiftCount cnt = 0 then [] else rmStore8 rm s }
  | .rolEwCnt8 rm cnt =>
    { regs16 := rmReg16 rm, flags := rotateFlags cnt, stores := if shiftCount cnt = 0 then [] else rmStore16 rm s }
  | .rorEwCnt8 rm cnt =>
    { regs16 := rmReg16 rm, flags := rotateFlags cnt, stores := if shiftCount cnt = 0 then [] else rmStore16 rm s }
  | .rclEwCnt8 rm cnt =>
    { regs16 := rmReg16 rm, flags := rotateFlags cnt, stores := if shiftCount cnt = 0 then [] else rmStore16 rm s }
  | .rcrEwCnt8 rm cnt =>
    { regs16 := rmReg16 rm, flags := rotateFlags cnt, stores := if shiftCount cnt = 0 then [] else rmStore16 rm s }
  | .shlEwCnt8 rm cnt =>
    { regs16 := rmReg16 rm, flags := shiftedFlags cnt, stores := if shiftCount cnt = 0 then [] else rmStore16 rm s }
  | .shrEwCnt8 rm cnt =>
    { regs16 := rmReg16 rm, flags := shiftedFlags cnt, stores := if shiftCount cnt = 0 then [] else rmStore16 rm s }
  | .sarEwCnt8 rm cnt =>
    { regs16 := rmReg16 rm, flags := shiftedFlags cnt, stores := if shiftCount cnt = 0 then [] else rmStore16 rm s }
  | .rolEb1 rm => { regs8 := rmReg8 rm, flags := [.CF, .OF], stores := rmStore8 rm s }
  | .rorEb1 rm => { regs8 := rmReg8 rm, flags := [.CF, .OF], stores := rmStore8 rm s }
  | .rclEb1 rm => { regs8 := rmReg8 rm, flags := [.CF, .OF], stores := rmStore8 rm s }
  | .rcrEb1 rm => { regs8 := rmReg8 rm, flags := [.CF, .OF], stores := rmStore8 rm s }
  | .shlEb1 rm => { regs8 := rmReg8 rm, flags := [.CF, .OF, .SF, .ZF, .PF], stores := rmStore8 rm s }
  | .shrEb1 rm => { regs8 := rmReg8 rm, flags := [.CF, .OF, .SF, .ZF, .PF], stores := rmStore8 rm s }
  | .sarEb1 rm => { regs8 := rmReg8 rm, flags := [.CF, .OF, .SF, .ZF, .PF], stores := rmStore8 rm s }
  | .rolEw1 rm => { regs16 := rmReg16 rm, flags := [.CF, .OF], stores := rmStore16 rm s }
  | .rorEw1 rm => { regs16 := rmReg16 rm, flags := [.CF, .OF], stores := rmStore16 rm s }
  | .rclEw1 rm => { regs16 := rmReg16 rm, flags := [.CF, .OF], stores := rmStore16 rm s }
  | .rcrEw1 rm => { regs16 := rmReg16 rm, flags := [.CF, .OF], stores := rmStore16 rm s }
  | .shlEw1 rm => { regs16 := rmReg16 rm, flags := [.CF, .OF, .SF, .ZF, .PF], stores := rmStore16 rm s }
  | .shrEw1 rm => { regs16 := rmReg16 rm, flags := [.CF, .OF, .SF, .ZF, .PF], stores := rmStore16 rm s }
  | .sarEw1 rm => { regs16 := rmReg16 rm, flags := [.CF, .OF, .SF, .ZF, .PF], stores := rmStore16 rm s }
  | .rolEbCL rm =>
    { regs8 := rmReg8 rm, flags := rotateFlags (s.reg8 .cl),
      stores := if shiftCount (s.reg8 .cl) = 0 then [] else rmStore8 rm s }
  | .rorEbCL rm =>
    { regs8 := rmReg8 rm, flags := rotateFlags (s.reg8 .cl),
      stores := if shiftCount (s.reg8 .cl) = 0 then [] else rmStore8 rm s }
  | .rclEbCL rm =>
    { regs8 := rmReg8 rm, flags := rotateFlags (s.reg8 .cl),
      stores := if shiftCount (s.reg8 .cl) = 0 then [] else rmStore8 rm s }
  | .rcrEbCL rm =>
    { regs8 := rmReg8 rm, flags := rotateFlags (s.reg8 .cl),
      stores := if shiftCount (s.reg8 .cl) = 0 then [] else rmStore8 rm s }
  | .shlEbCL rm =>
    { regs8 := rmReg8 rm, flags := shiftedFlags (s.reg8 .cl),
      stores := if shiftCount (s.reg8 .cl) = 0 then [] else rmStore8 rm s }
  | .shrEbCL rm =>
    { regs8 := rmReg8 rm, flags := shiftedFlags (s.reg8 .cl),
      stores := if shiftCount (s.reg8 .cl) = 0 then [] else rmStore8 rm s }
  | .sarEbCL rm =>
    { regs8 := rmReg8 rm, flags := shiftedFlags (s.reg8 .cl),
      stores := if shiftCount (s.reg8 .cl) = 0 then [] else rmStore8 rm s }
  | .rolEwCL rm =>
    { regs16 := rmReg16 rm, flags := rotateFlags (s.reg8 .cl),
      stores := if shiftCount (s.reg8 .cl) = 0 then [] else rmStore16 rm s }
  | .rorEwCL rm =>
    { regs16 := rmReg16 rm, flags := rotateFlags (s.reg8 .cl),
      stores := if shiftCount (s.reg8 .cl) = 0 then [] else rmStore16 rm s }
  | .rclEwCL rm =>
    { regs16 := rmReg16 rm, flags := rotateFlags (s.reg8 .cl),
      stores := if shiftCount (s.reg8 .cl) = 0 then [] else rmStore16 rm s }
  | .rcrEwCL rm =>
    { regs16 := rmReg16 rm, flags := rotateFlags (s.reg8 .cl),
      stores := if shiftCount (s.reg8 .cl) = 0 then [] else rmStore16 rm s }
  | .shlEwCL rm =>
    { regs16 := rmReg16 rm, flags := shiftedFlags (s.reg8 .cl),
      stores := if shiftCount (s.reg8 .cl) = 0 then [] else rmStore16 rm s }
  | .shrEwCL rm =>
    { regs16 := rmReg16 rm, flags := shiftedFlags (s.reg8 .cl),
      stores := if shiftCount (s.reg8 .cl) = 0 then [] else rmStore16 rm s }
  | .sarEwCL rm =>
    { regs16 := rmReg16 rm, flags := shiftedFlags (s.reg8 .cl),
      stores := if shiftCount (s.reg8 .cl) = 0 then [] else rmStore16 rm s }
  | .retPop _ => { regs16 := [.sp], jumps := true }
  | .ret => { regs16 := [.sp], jumps := true }
  | .les reg _ => { regs16 := [reg], sregs := [.es] }
  | .lds reg _ => { regs16 := [reg], sregs := [.ds] }
  | .movEbIb rm _ => { regs8 := rmReg8 rm, stores := rmStore8 rm s }
  | .movEwIw rm _ => { regs16 := rmReg16 rm, stores := rmStore16 rm s }
  | .retfPop _ => { regs16 := [.sp], sregs := [.cs], jumps := true }
  | .retf => { regs16 := [.sp], sregs := [.cs], jumps := true }
  | .int3 =>
    { regs16 := [.sp], sregs := [.cs], flags := [.IF, .TF], stores := segBytes .ss (s.regs.sp - 6) 6 s, jumps := true }
  | .int _ =>
    { regs16 := [.sp], sregs := [.cs], flags := [.IF, .TF], stores := segBytes .ss (s.regs.sp - 6) 6 s, jumps := true }
  | .into =>
    if getFlag .OF s.flags then
      { regs16 := [.sp], sregs := [.cs], flags := [.IF, .TF], stores := segBytes .ss (s.regs.sp - 6) 6 s, jumps := true }
    else { }
  | .iret => { regs16 := [.sp], sregs := [.cs], flags := allFlags, jumps := true }
  | .xlat => { regs8 := [.al] }
  | .loopne _ => { regs16 := [.cx], jumps := true }
  | .loope _ => { regs16 := [.cx], jumps := true }
  | .loop _ => { regs16 := [.cx], jumps := true }
  | .jcxz _ => { jumps := true }
  | .callRel16 _ => { regs16 := [.sp], stores := segBytes .ss (s.regs.sp - 2) 2 s, jumps := true }
  | .jmpRel16 _ => { jumps := true }
  | .jmpFar _ _ => { sregs := [.cs], jumps := true }
  | .jmpRel8 _ => { jumps := true }
  | .hlt => { }
  | .cmc => { flags := [.CF] }
  | .testEbIb _ _ => { flags := statusFlags }
  | .testEwIw _ _ => { flags := statusFlags }
  | .notEb rm => { regs8 := rmReg8 rm, stores := rmStore8 rm s }
  | .notEw rm => { regs16 := rmReg16 rm, stores := rmStore16 rm s }
  | .negEb rm => { regs8 := rmReg8 rm, flags := statusFlags, stores := rmStore8 rm s }
  | .negEw rm => { regs16 := rmReg16 rm, flags := statusFlags, stores := rmStore16 rm s }
  | .clc => { flags := [.CF] }
  | .stc => { flags := [.CF] }
  | .cli => { flags := [.IF] }
  | .sti => { flags := [.IF] }
  | .cld => { flags := [.DF] }
  | .std => { flags := [.DF] }
  | .incEb rm => { regs8 := rmReg8 rm, flags := [.PF, .AF, .ZF, .SF, .OF], stores := rmStore8 rm s }
  | .decEb rm => { regs8 := rmReg8 rm, flags := [.PF, .AF, .ZF, .SF, .OF], stores := rmStore8 rm s }
  | .incEw rm => { regs16 := rmReg16 rm, flags := [.PF, .AF, .ZF, .SF, .OF], stores := rmStore16 rm s }
  | .decEw rm => { regs16 := rmReg16 rm, flags := [.PF, .AF, .ZF, .SF, .OF], stores := rmStore16 rm s }
  | .callEw _ => { regs16 := [.sp], stores := segBytes .ss (s.regs.sp - 2) 2 s, jumps := true }
  | .callFarM _ => { regs16 := [.sp], sregs := [.cs], stores := segBytes .ss (s.regs.sp - 4) 4 s, jumps := true }
  | .jmpEw _ => { jumps := true }
  | .jmpFarM _ => { sregs := [.cs], jumps := true }
  | .pushEw _ => { regs16 := [.sp], stores := segBytes .ss (s.regs.sp - 2) 2 s }
  | .segES => { }
  | .segCS => { }
  | .segSS => { }
  | .segDS => { }
  | .lock => { }
  | .repne => { }
  | .rep => { }

/-! ## What each instruction reads of memory -/

/-- The addresses of the source elements of MOVS, CMPS and LODS, `n` bytes each (44_string R240 to R245). -/
def sourceBytes (n : Nat) (s : State) : List Addr :=
  (List.range (elementCount s)).flatMap fun k =>
    segBytes (overridden .ds s) (s.regs.si + BitVec.ofNat 16 k * stringDelta (BitVec.ofNat 16 n) s.flags) n s

/-- The addresses of the entry of a vector (20_memory R71, 60_exceptions R321). -/
def vectorBytes (n : Byte) : List Addr := (List.range 4).map fun k => BitVec.ofNat 20 (4 * n.toNat + k)

/-- The physical addresses the instruction reads as its operands, stack slots and vector (its fetch apart): a repeated CMPS
or SCAS that stops on ZF reads only the first of them (44_string R241). -/
def loads (i : Instr) (s : State) : List Addr :=
  match i with
  | .addEbGb rm _ | .addGbEb _ rm | .orEbGb rm _ | .orGbEb _ rm | .adcEbGb rm _ | .adcGbEb _ rm | .sbbEbGb rm _
  | .sbbGbEb _ rm | .andEbGb rm _ | .andGbEb _ rm | .subEbGb rm _ | .subGbEb _ rm | .xorEbGb rm _
  | .xorGbEb _ rm | .cmpEbGb rm _ | .cmpGbEb _ rm | .addEbIb rm _ | .orEbIb rm _ | .adcEbIb rm _
  | .sbbEbIb rm _ | .andEbIb rm _ | .subEbIb rm _ | .xorEbIb rm _ | .cmpEbIb rm _ | .testEbGb rm _
  | .xchgEbGb rm _ | .movGbEb _ rm | .rolEbCnt8 rm _ | .rorEbCnt8 rm _ | .rclEbCnt8 rm _ | .rcrEbCnt8 rm _
  | .shlEbCnt8 rm _ | .shrEbCnt8 rm _ | .sarEbCnt8 rm _ | .rolEb1 rm | .rorEb1 rm | .rclEb1 rm | .rcrEb1 rm
  | .shlEb1 rm | .shrEb1 rm | .sarEb1 rm | .rolEbCL rm | .rorEbCL rm | .rclEbCL rm | .rcrEbCL rm | .shlEbCL rm
  | .shrEbCL rm | .sarEbCL rm | .testEbIb rm _ | .notEb rm | .negEb rm | .incEb rm | .decEb rm => rmStore8 rm s
  | .addEwGw rm _ | .addGwEw _ rm | .orEwGw rm _ | .orGwEw _ rm | .adcEwGw rm _ | .adcGwEw _ rm | .sbbEwGw rm _
  | .sbbGwEw _ rm | .andEwGw rm _ | .andGwEw _ rm | .subEwGw rm _ | .subGwEw _ rm | .xorEwGw rm _
  | .xorGwEw _ rm | .cmpEwGw rm _ | .cmpGwEw _ rm | .addEwIw rm _ | .addEwIbs rm _ | .orEwIw rm _
  | .orEwIbs rm _ | .adcEwIw rm _ | .adcEwIbs rm _ | .sbbEwIw rm _ | .sbbEwIbs rm _ | .andEwIw rm _
  | .andEwIbs rm _ | .subEwIw rm _ | .subEwIbs rm _ | .xorEwIw rm _ | .xorEwIbs rm _ | .cmpEwIw rm _
  | .cmpEwIbs rm _ | .testEwGw rm _ | .xchgEwGw rm _ | .movGwEw _ rm | .movESEw rm | .movSSEw rm | .movDSEw rm
  | .rolEwCnt8 rm _ | .rorEwCnt8 rm _ | .rclEwCnt8 rm _ | .rcrEwCnt8 rm _ | .shlEwCnt8 rm _ | .shrEwCnt8 rm _
  | .sarEwCnt8 rm _ | .rolEw1 rm | .rorEw1 rm | .rclEw1 rm | .rcrEw1 rm | .shlEw1 rm | .shrEw1 rm | .sarEw1 rm
  | .rolEwCL rm | .rorEwCL rm | .rclEwCL rm | .rcrEwCL rm | .shlEwCL rm | .shrEwCL rm | .sarEwCL rm
  | .testEwIw rm _ | .notEw rm | .negEw rm | .incEw rm | .decEw rm | .callEw rm | .jmpEw rm | .pushEw rm =>
    rmStore16 rm s
  | .addALIb _ | .addAXIw _ | .orALIb _ | .orAXIw _ | .adcALIb _ | .adcAXIw _ | .sbbALIb _ | .sbbAXIw _
  | .andALIb _ | .andAXIw _ | .subALIb _ | .subAXIw _ | .xorALIb _ | .xorAXIw _ | .cmpALIb _ | .cmpAXIw _
  | .pushES | .pushCS | .pushSS | .pushDS | .incR16 _ | .decR16 _ | .pushR16 _ | .jo _ | .jno _ | .jb _
  | .jae _ | .je _ | .jne _ | .jbe _ | .ja _ | .js _ | .jns _ | .jp _ | .jnp _ | .jl _ | .jge _ | .jle _
  | .jg _ | .movEbGb _ _ | .movEwGw _ _ | .movEwSw _ _ | .lea _ _ | .nop | .xchgAXR16 _ | .cbw | .cwd
  | .callFar _ _ | .pushf | .sahf | .lahf | .movMoffsAL _ | .movMoffsAX _ | .testALIb _ | .testAXIw _ | .stosb
  | .stosw | .movR8Ib _ _ | .movR16Iw _ _ | .movEbIb _ _ | .movEwIw _ _ | .loopne _ | .loope _ | .loop _
  | .jcxz _ | .callRel16 _ | .jmpRel16 _ | .jmpFar _ _ | .jmpRel8 _ | .hlt | .cmc | .clc | .stc | .cli | .sti
  | .cld | .std | .segES | .segCS | .segSS | .segDS | .lock | .repne | .rep => []
  | .popES | .popSS | .popDS | .popR16 _ | .popEw _ | .popf | .retPop _ | .ret => segBytes .ss s.regs.sp 2 s
  | .movALMoffs moffs => segBytes (overridden .ds s) moffs 1 s
  | .movAXMoffs moffs => segBytes (overridden .ds s) moffs 2 s
  | .movsb | .lodsb => sourceBytes 1 s
  | .movsw | .lodsw => sourceBytes 2 s
  | .cmpsb => sourceBytes 1 s ++ elementBytes 1 s
  | .cmpsw => sourceBytes 2 s ++ elementBytes 2 s
  | .scasb => elementBytes 1 s
  | .scasw => elementBytes 2 s
  | .les _ mem | .lds _ mem | .callFarM mem | .jmpFarM mem => segBytes (eaSeg mem s) (eaOff mem s) 4 s
  | .retfPop _ | .retf => segBytes .ss s.regs.sp 4 s
  | .int3 => vectorBytes 3
  | .int vec => vectorBytes vec
  | .into => if getFlag .OF s.flags then vectorBytes 4 else []
  | .iret => segBytes .ss s.regs.sp 6 s
  | .xlat => segBytes (overridden .ds s) (BitVec.ofNat 16 (s.regs.bx.toNat + (s.reg8 .al).toNat)) 1 s

/-! ## What the results are, on numbers

The predicates below say a result and its flags by exact arithmetic on the operands' values, not by the operations of
Machine/Flags.lean. -/

/-- Every bit of the flags word but those of the flags named is kept. -/
def keepsAllBut (xs : List Flag) (f g : Word) : Prop :=
  ∀ k, k < 16 → (∀ x ∈ xs, flagBit x ≠ k) → g.getLsbD k = f.getLsbD k

/-- SF, ZF and PF are those of the result (41_arithmetic R170). -/
structure ResultFlags {w : Nat} (r : BitVec w) (g : Word) : Prop where
  sign : getFlag .SF g = decide (r.toInt < 0)
  zero : getFlag .ZF g = decide (r.toNat = 0)
  parity : getFlag .PF g = decide ((List.range 8).countP (fun k => r.getLsbD k) % 2 = 0)

/-- A signed value outside the range of `w` bits (10_state R26: signed overflow). -/
def outsideRange (w : Nat) (x : Int) : Prop := x < -2 ^ (w - 1) ∨ 2 ^ (w - 1) ≤ x

/-- The sum `a + b + c`, with OF (signed overflow), AF (carry out of bit 3), SF, ZF and PF (41_arithmetic R171). -/
structure SumOf {w : Nat} (a b : BitVec w) (c : Bool) (r : BitVec w) (g : Word) : Prop where
  value : r.toNat = (a.toNat + b.toNat + c.toNat) % 2 ^ w
  overflow : getFlag .OF g = true ↔ outsideRange w (a.toInt + b.toInt + c.toNat)
  adjust : getFlag .AF g = decide (16 ≤ a.toNat % 16 + b.toNat % 16 + c.toNat)
  result : ResultFlags r g

/-- The difference `a - b - c`, with OF (signed overflow), AF (borrow into bit 3), SF, ZF and PF (41_arithmetic R172). -/
structure DifferenceOf {w : Nat} (a b : BitVec w) (c : Bool) (r : BitVec w) (g : Word) : Prop where
  value : (r.toNat : Int) = ((a.toNat : Int) - b.toNat - c.toNat) % 2 ^ w
  overflow : getFlag .OF g = true ↔ outsideRange w (a.toInt - b.toInt - c.toNat)
  adjust : getFlag .AF g = decide (a.toNat % 16 < b.toNat % 16 + c.toNat)
  result : ResultFlags r g

/-- A full addition: the sum, CF the carry out, and nothing else of FLAGS (41_arithmetic R171). -/
def Adds {w : Nat} (c : Bool) (a b : BitVec w) (f : Word) (r : BitVec w) (g : Word) : Prop :=
  SumOf a b c r g ∧ getFlag .CF g = decide (2 ^ w ≤ a.toNat + b.toNat + c.toNat) ∧ keepsAllBut statusFlags f g

/-- A full subtraction: the difference, CF the borrow, and nothing else of FLAGS (41_arithmetic R172). -/
def Subtracts {w : Nat} (c : Bool) (a b : BitVec w) (f : Word) (r : BitVec w) (g : Word) : Prop :=
  DifferenceOf a b c r g ∧ getFlag .CF g = decide (a.toNat < b.toNat + c.toNat) ∧ keepsAllBut statusFlags f g

/-- The flags of AND, OR, XOR and TEST (42_logical R200). -/
def LogicalFlags {w : Nat} (f : Word) (r : BitVec w) (g : Word) : Prop :=
  ResultFlags r g ∧ getFlag .CF g = false ∧ getFlag .OF g = false ∧ getFlag .AF g = false ∧ keepsAllBut statusFlags f g

/-- A bitwise operation: each bit of the result by `op` (42_logical R201 to R203). -/
def Bitwise {w : Nat} (op : Bool → Bool → Bool) (a b : BitVec w) (f : Word) (r : BitVec w) (g : Word) : Prop :=
  (∀ k, k < w → r.getLsbD k = op (a.getLsbD k) (b.getLsbD k)) ∧ LogicalFlags f r g

/-- What an operation makes of two operands of a width and the old flags: the result and the new flags. -/
abbrev TwoOperand := {w : Nat} → BitVec w → BitVec w → Word → BitVec w → Word → Prop

/-- The nine forms of a two-operand operation (41_arithmetic R173). -/
structure AluForms where
  ebGb : Rm8 → Reg8 → Instr
  ewGw : Rm16 → Reg16 → Instr
  gbEb : Reg8 → Rm8 → Instr
  gwEw : Reg16 → Rm16 → Instr
  alIb : Byte → Instr
  axIw : Word → Instr
  ebIb : Rm8 → Byte → Instr
  ewIw : Rm16 → Word → Instr
  ewIbs : Rm16 → Byte → Instr

/-- The forms of each operation. -/
def addForms : AluForms := ⟨.addEbGb, .addEwGw, .addGbEb, .addGwEw, .addALIb, .addAXIw, .addEbIb, .addEwIw, .addEwIbs⟩
def orForms : AluForms := ⟨.orEbGb, .orEwGw, .orGbEb, .orGwEw, .orALIb, .orAXIw, .orEbIb, .orEwIw, .orEwIbs⟩
def adcForms : AluForms := ⟨.adcEbGb, .adcEwGw, .adcGbEb, .adcGwEw, .adcALIb, .adcAXIw, .adcEbIb, .adcEwIw, .adcEwIbs⟩
def sbbForms : AluForms := ⟨.sbbEbGb, .sbbEwGw, .sbbGbEb, .sbbGwEw, .sbbALIb, .sbbAXIw, .sbbEbIb, .sbbEwIw, .sbbEwIbs⟩
def andForms : AluForms := ⟨.andEbGb, .andEwGw, .andGbEb, .andGwEw, .andALIb, .andAXIw, .andEbIb, .andEwIw, .andEwIbs⟩
def subForms : AluForms := ⟨.subEbGb, .subEwGw, .subGbEb, .subGwEw, .subALIb, .subAXIw, .subEbIb, .subEwIw, .subEwIbs⟩
def xorForms : AluForms := ⟨.xorEbGb, .xorEwGw, .xorGbEb, .xorGwEw, .xorALIb, .xorAXIw, .xorEbIb, .xorEwIw, .xorEwIbs⟩
def cmpForms : AluForms := ⟨.cmpEbGb, .cmpEwGw, .cmpGbEb, .cmpGwEw, .cmpALIb, .cmpAXIw, .cmpEbIb, .cmpEwIw, .cmpEwIbs⟩

/-- The byte an `Eb` operand reads as, and the state after the read (30_encoding R98). -/
def operand8 (rm : Rm8) (s : State) : Byte × State := readPlace8 (place8 rm s) s

/-- The word an `Ew` operand reads as, and the state after the read (30_encoding R98). -/
def operand16 (rm : Rm16) (s : State) : Word × State := readPlace16 (place16 rm s) s

/-- All nine forms run: the operands are read, FLAGS becomes what `P` says, and the result goes to the destination
(41_arithmetic R173). -/
def AluRuns (forms : AluForms) (P : TwoOperand) : Prop :=
  ∀ s : State,
    (∀ rm reg, ∃ r g, exec (forms.ebGb rm reg) s = .next (writePlace8 (place8 rm s) r (setFlags g (operand8 rm s).2)) ∧
      P (operand8 rm s).1 (s.reg8 reg) s.flags r g) ∧
    (∀ rm reg, ∃ r g, exec (forms.ewGw rm reg) s = .next (writePlace16 (place16 rm s) r (setFlags g (operand16 rm s).2)) ∧
      P (operand16 rm s).1 (s.reg16 reg) s.flags r g) ∧
    (∀ reg rm, ∃ r g, exec (forms.gbEb reg rm) s = .next (setReg8 reg r (setFlags g (operand8 rm s).2)) ∧
      P (s.reg8 reg) (operand8 rm s).1 s.flags r g) ∧
    (∀ reg rm, ∃ r g, exec (forms.gwEw reg rm) s = .next (setReg16 reg r (setFlags g (operand16 rm s).2)) ∧
      P (s.reg16 reg) (operand16 rm s).1 s.flags r g) ∧
    (∀ imm, ∃ r g, exec (forms.alIb imm) s = .next (setReg8 .al r (setFlags g s)) ∧ P (s.reg8 .al) imm s.flags r g) ∧
    (∀ imm, ∃ r g, exec (forms.axIw imm) s = .next (setReg16 .ax r (setFlags g s)) ∧ P s.regs.ax imm s.flags r g) ∧
    (∀ rm imm, ∃ r g, exec (forms.ebIb rm imm) s = .next (writePlace8 (place8 rm s) r (setFlags g (operand8 rm s).2)) ∧
      P (operand8 rm s).1 imm s.flags r g) ∧
    (∀ rm imm, ∃ r g, exec (forms.ewIw rm imm) s = .next (writePlace16 (place16 rm s) r (setFlags g (operand16 rm s).2)) ∧
      P (operand16 rm s).1 imm s.flags r g) ∧
    (∀ rm imm, ∃ r g, exec (forms.ewIbs rm imm) s =
        .next (writePlace16 (place16 rm s) r (setFlags g (operand16 rm s).2)) ∧
      P (operand16 rm s).1 (BitVec.ofInt 16 imm.toInt) s.flags r g)

/-- All nine forms run and write FLAGS alone: the operands are read, FLAGS becomes what `P` says of some result
(41_arithmetic R178). -/
def CompareRuns (forms : AluForms) (P : TwoOperand) : Prop :=
  ∀ s : State,
    (∀ rm reg, ∃ r g, exec (forms.ebGb rm reg) s = .next (setFlags g (operand8 rm s).2) ∧
      P (operand8 rm s).1 (s.reg8 reg) s.flags r g) ∧
    (∀ rm reg, ∃ r g, exec (forms.ewGw rm reg) s = .next (setFlags g (operand16 rm s).2) ∧
      P (operand16 rm s).1 (s.reg16 reg) s.flags r g) ∧
    (∀ reg rm, ∃ r g, exec (forms.gbEb reg rm) s = .next (setFlags g (operand8 rm s).2) ∧
      P (s.reg8 reg) (operand8 rm s).1 s.flags r g) ∧
    (∀ reg rm, ∃ r g, exec (forms.gwEw reg rm) s = .next (setFlags g (operand16 rm s).2) ∧
      P (s.reg16 reg) (operand16 rm s).1 s.flags r g) ∧
    (∀ imm, ∃ r g, exec (forms.alIb imm) s = .next (setFlags g s) ∧ P (s.reg8 .al) imm s.flags r g) ∧
    (∀ imm, ∃ r g, exec (forms.axIw imm) s = .next (setFlags g s) ∧ P s.regs.ax imm s.flags r g) ∧
    (∀ rm imm, ∃ r g, exec (forms.ebIb rm imm) s = .next (setFlags g (operand8 rm s).2) ∧
      P (operand8 rm s).1 imm s.flags r g) ∧
    (∀ rm imm, ∃ r g, exec (forms.ewIw rm imm) s = .next (setFlags g (operand16 rm s).2) ∧
      P (operand16 rm s).1 imm s.flags r g) ∧
    (∀ rm imm, ∃ r g, exec (forms.ewIbs rm imm) s = .next (setFlags g (operand16 rm s).2) ∧
      P (operand16 rm s).1 (BitVec.ofInt 16 imm.toInt) s.flags r g)

/-- An `Eb` and an `Ew` form with one operand run: it is read, FLAGS becomes what `P` says, the result is written back. -/
def UnaryRuns (eb : Rm8 → Instr) (ew : Rm16 → Instr) (P : {w : Nat} → BitVec w → Word → BitVec w → Word → Prop) : Prop :=
  ∀ s : State,
    (∀ rm, ∃ r g, exec (eb rm) s = .next (writePlace8 (place8 rm s) r (setFlags g (operand8 rm s).2)) ∧
      P (operand8 rm s).1 s.flags r g) ∧
    (∀ rm, ∃ r g, exec (ew rm) s = .next (writePlace16 (place16 rm s) r (setFlags g (operand16 rm s).2)) ∧
      P (operand16 rm s).1 s.flags r g)

/-- The six forms of a shift or rotate (43_shift_rotate R220). -/
structure ShiftForms where
  eb1 : Rm8 → Instr
  ew1 : Rm16 → Instr
  ebCL : Rm8 → Instr
  ewCL : Rm16 → Instr
  ebCnt8 : Rm8 → Byte → Instr
  ewCnt8 : Rm16 → Byte → Instr

/-- The forms of each operation. -/
def rolForms : ShiftForms := ⟨.rolEb1, .rolEw1, .rolEbCL, .rolEwCL, .rolEbCnt8, .rolEwCnt8⟩
def rorForms : ShiftForms := ⟨.rorEb1, .rorEw1, .rorEbCL, .rorEwCL, .rorEbCnt8, .rorEwCnt8⟩
def rclForms : ShiftForms := ⟨.rclEb1, .rclEw1, .rclEbCL, .rclEwCL, .rclEbCnt8, .rclEwCnt8⟩
def rcrForms : ShiftForms := ⟨.rcrEb1, .rcrEw1, .rcrEbCL, .rcrEwCL, .rcrEbCnt8, .rcrEwCnt8⟩
def shlForms : ShiftForms := ⟨.shlEb1, .shlEw1, .shlEbCL, .shlEwCL, .shlEbCnt8, .shlEwCnt8⟩
def shrForms : ShiftForms := ⟨.shrEb1, .shrEw1, .shrEbCL, .shrEwCL, .shrEbCnt8, .shrEwCnt8⟩
def sarForms : ShiftForms := ⟨.sarEb1, .sarEw1, .sarEbCL, .sarEwCL, .sarEbCnt8, .sarEwCnt8⟩

/-- What a shift or rotate makes of an operand, a count of 1 to 31 and the old flags: the result and the new flags. -/
abbrev ShiftBy := {w : Nat} → BitVec w → Nat → Word → BitVec w → Word → Prop

/-- One form runs: with an effective count of 0 the operand is read and nothing is written; otherwise FLAGS becomes what
`P` says and the result is written back (43_shift_rotate R220). -/
def ShiftRuns8 (i : Instr) (rm : Rm8) (raw : Byte) (s : State) (P : ShiftBy) : Prop :=
  if raw.toNat % 32 = 0 then exec i s = .next (operand8 rm s).2
  else ∃ r g, exec i s = .next (writePlace8 (place8 rm s) r (setFlags g (operand8 rm s).2)) ∧
    P (operand8 rm s).1 (raw.toNat % 32) s.flags r g

/-- The same of a 16-bit form (43_shift_rotate R220). -/
def ShiftRuns16 (i : Instr) (rm : Rm16) (raw : Byte) (s : State) (P : ShiftBy) : Prop :=
  if raw.toNat % 32 = 0 then exec i s = .next (operand16 rm s).2
  else ∃ r g, exec i s = .next (writePlace16 (place16 rm s) r (setFlags g (operand16 rm s).2)) ∧
    P (operand16 rm s).1 (raw.toNat % 32) s.flags r g

/-- All six forms run, with the counts 1, CL before the operation, and `cnt8` (43_shift_rotate R220). -/
def ShiftRuns (forms : ShiftForms) (P : ShiftBy) : Prop :=
  ∀ s : State,
    (∀ rm, ShiftRuns8 (forms.eb1 rm) rm 1 s P) ∧ (∀ rm, ShiftRuns16 (forms.ew1 rm) rm 1 s P) ∧
    (∀ rm, ShiftRuns8 (forms.ebCL rm) rm (s.reg8 .cl) s P) ∧ (∀ rm, ShiftRuns16 (forms.ewCL rm) rm (s.reg8 .cl) s P) ∧
    (∀ rm cnt, ShiftRuns8 (forms.ebCnt8 rm cnt) rm cnt s P) ∧ (∀ rm cnt, ShiftRuns16 (forms.ewCnt8 rm cnt) rm cnt s P)

/-- FLAGS after ROL or RCL of at least one bit: OF from the top bit of the result and the carry (43_shift_rotate R222). -/
def LeftRotateFlags {w : Nat} (r : BitVec w) (cf : Bool) (f g : Word) : Prop :=
  getFlag .CF g = cf ∧ getFlag .OF g = (r.msb ^^ cf) ∧ keepsAllBut [.CF, .OF] f g

/-- FLAGS after ROR or RCR of at least one bit: OF from the two top bits of the result (43_shift_rotate R222). -/
def RightRotateFlags {w : Nat} (r : BitVec w) (cf : Bool) (f g : Word) : Prop :=
  getFlag .CF g = cf ∧ getFlag .OF g = (r.getLsbD (w - 1) ^^ r.getLsbD (w - 2)) ∧ keepsAllBut [.CF, .OF] f g

/-- FLAGS after a shift of at least one bit, OF given (43_shift_rotate R222). -/
def ShiftedFlags {w : Nat} (r : BitVec w) (cf ov : Bool) (f g : Word) : Prop :=
  getFlag .CF g = cf ∧ getFlag .OF g = ov ∧ ResultFlags r g ∧ keepsAllBut [.CF, .OF, .SF, .ZF, .PF] f g

/-! ## Destinations, loads and the stack -/

/-- The byte `v` goes to an `Eb` destination: as R98 writes it; a register then holds it, and so does memory that is RAM. -/
def Stores8 (p : Place8) (v : Byte) (s t : State) : Prop :=
  t = writePlace8 p v s ∧
    match p with
    | .reg r => t.reg8 r = v
    | .mem j off => Memory.wf s.mem = true → onRam (segBytes j off 1 s) s = true → peekByte j off t = v

/-- The word `v` goes to an `Ew` destination: as R98 writes it; a register then holds it, and so does memory that is RAM. -/
def Stores16 (p : Place16) (v : Word) (s t : State) : Prop :=
  t = writePlace16 p v s ∧
    match p with
    | .reg r => t.reg16 r = v
    | .mem j off => Memory.wf s.mem = true → onRam (segBytes j off 2 s) s = true → peekWord j off t = v

/-- `v` was pushed: SP is 2 less, and the word at the new SS:SP, low byte first, is `v` (40_data_transfer R146). -/
def Pushed (v : Word) (s t : State) : Prop :=
  t.regs = { s.regs with sp := s.regs.sp - 2 } ∧
    t = segWrite16 .ss (s.regs.sp - 2) v { s with regs := { s.regs with sp := s.regs.sp - 2 } } ∧
    (Memory.wf s.mem = true → onRam (segBytes .ss (s.regs.sp - 2) 2 s) s = true → peekWord .ss t.regs.sp t = v)

/-- The word on top of the stack, as a read through the Router gives it, and the state after the read with SP 2 more
(40_data_transfer R147). -/
def popped (s : State) : Word × State :=
  let v := segRead16 .ss s.regs.sp s
  (v.1, { v.2 with regs := { v.2.regs with sp := s.regs.sp + 2 } })

/-- The exact sum of a memory operand's base registers and displacement, by the table of 30_encoding R96 and R97. -/
def eaSum (m : MemRef) (s : State) : Int :=
  let base (b : Base) : Int :=
    match b with
    | .bxsi => s.regs.bx.toNat + s.regs.si.toNat
    | .bxdi => s.regs.bx.toNat + s.regs.di.toNat
    | .bpsi => s.regs.bp.toNat + s.regs.si.toNat
    | .bpdi => s.regs.bp.toNat + s.regs.di.toNat
    | .si => s.regs.si.toNat
    | .di => s.regs.di.toNat
    | .bp => s.regs.bp.toNat
    | .bx => s.regs.bx.toNat
  match m with
  | .plain b => base b
  | .direct d => d.toNat
  | .disp8 b d => base b + d.toInt
  | .disp16 b d => base b + d.toNat

/-- The memory operand has BP in its base sum: `rm` 2 and 3, and 6 with a displacement (30_encoding R96, 20_memory R66). -/
def usesBP (m : MemRef) : Bool :=
  match m with
  | .plain b => b ∈ [Base.bpsi, .bpdi, .bp]
  | .direct _ => false
  | .disp8 b _ => b ∈ [Base.bpsi, .bpdi, .bp]
  | .disp16 b _ => b ∈ [Base.bpsi, .bpdi, .bp]

/-! ## Traps -/

/-- FLAGS after a trap entry: IF and TF are 0, every other bit is kept (60_exceptions R321). -/
def EntryFlags (f g : Word) : Prop :=
  getFlag .IF g = false ∧ getFlag .TF g = false ∧ keepsAllBut [.IF, .TF] f g

/-- The trap `n` was entered with the return offset `ret` (60_exceptions R321): SP is 6 less and nothing else of the
registers but CS changes; IF and TF are cleared; where the stack is RAM it holds, from SS:SP up, the return offset, the old
CS and the old FLAGS, and no other byte of memory changes; where reading the vector-table entry calls no device, pc and
CS are its two words; VECTOR, HALTED, NOINT, the prefix state and the platform stay, and, where neither the stack slots nor
the vector-table entry call a device, the interrupt controller too. -/
structure TrapEntered (n : Byte) (ret : Word) (s t : State) : Prop where
  regs : t.regs = { s.regs with sp := s.regs.sp - 6 }
  segs : t.segs = { s.segs with cs := t.segs.cs }
  flags : EntryFlags s.flags t.flags
  stack : Memory.wf s.mem = true → onRam (segBytes .ss (s.regs.sp - 6) 6 s) s = true →
    peekWord .ss t.regs.sp t = ret ∧ peekWord .ss (t.regs.sp + 2) t = s.segs.cs ∧
      peekWord .ss (t.regs.sp + 4) t = s.flags
  vector : quiet ((List.range 4).map fun k => BitVec.ofNat 20 (4 * n.toNat + k)) s = true →
    t.pc = wordOf (peek8 (BitVec.ofNat 20 (4 * n.toNat)) t) (peek8 (BitVec.ofNat 20 (4 * n.toNat + 1)) t) ∧
      t.segs.cs = wordOf (peek8 (BitVec.ofNat 20 (4 * n.toNat + 2)) t) (peek8 (BitVec.ofNat 20 (4 * n.toNat + 3)) t)
  memory : ∀ x, (∀ a ∈ segBytes .ss (s.regs.sp - 6) 6 s, writeCell s.map a = none ∨ writeCell s.map a ≠ readCell s.map x) →
    peek8 x t = peek8 x s
  rest : SameOutside s t ∧ t.halted = s.halted ∧ t.noint = s.noint ∧ t.segov = s.segov ∧ t.rep = s.rep
  controller : quiet (segBytes .ss (s.regs.sp - 6) 6 s ++ vectorBytes n) s = true → SameController s t

/-! ## Prefixes, strings, illegal encodings -/

/-- The segment override in force after a run of prefixes: the last one (30_encoding R92, R93). -/
def lastOverride (ps : List Instr) : Option SReg :=
  ps.foldl (fun cur p =>
    if p = .segES then some .es
    else if p = .segCS then some .cs
    else if p = .segSS then some .ss
    else if p = .segDS then some .ds
    else cur) none

/-- The repeat prefix in force after a run of prefixes: the last one (30_encoding R92, R93). -/
def lastRepeat (ps : List Instr) : Option Rep :=
  ps.foldl (fun cur p => if p = .rep then some .e else if p = .repne then some .ne else cur) none

/-- The step of SI and DI for an element of `n` bytes (44_string R240). -/
def stride (n : Word) (s : State) : Word := if getFlag .DF s.flags = true then -n else n

/-- The segment of a string source (44_string R240). -/
def sourceSeg (s : State) : SReg := s.segov.getD .ds

/-- `One()`: what the string instruction does without a repeat prefix (44_string R241). The prefix in force is put aside and
back again. -/
def oneElement (i : Instr) (s : State) : State :=
  match exec i { s with rep := none } with
  | .next t => { t with rep := s.rep }
  | .fault _ => s
  | .refused _ => s

/-- One pass of the loop of 44_string R241: `One()`, then CX less by 1. -/
def onePassOf (i : Instr) (s : State) : State :=
  { oneElement i s with regs := { (oneElement i s).regs with cx := (oneElement i s).regs.cx - 1 } }

/-- After a pass, CMPS or SCAS stops on ZF (44_string R241). -/
def stopsOnZf (s : State) : Bool :=
  match s.rep with
  | some .e => !getFlag .ZF s.flags
  | some .ne => getFlag .ZF s.flags
  | none => true

/-- The opcode bytes without a decode (30_encoding R106). -/
def illegalOpcodes : List Byte :=
  [0x0F, 0x27, 0x2F, 0x37, 0x3F, 0x60, 0x61, 0x62, 0x63, 0x64, 0x65, 0x66, 0x67, 0x68, 0x69, 0x6A, 0x6B, 0x6C, 0x6D,
    0x6E, 0x6F, 0x82, 0x9B, 0xC8, 0xC9, 0xD4, 0xD5, 0xD6, 0xD8, 0xD9, 0xDA, 0xDB, 0xDC, 0xDD, 0xDE, 0xDF, 0xE4, 0xE5,
    0xE6, 0xE7, 0xEC, 0xED, 0xEE, 0xEF, 0xF1]

/-- The combinations of an opcode and a ModRM byte without a decode (30_encoding R106). -/
def illegalModRM (op m : Byte) : Bool :=
  let reg := (m.toNat / 8) % 8
  let mod3 := decide (192 ≤ m.toNat)
  if op = 0x8C then decide (4 ≤ reg)
  else if op = 0x8E then decide (reg = 1 ∨ 4 ≤ reg)
  else if op = 0x8D ∨ op = 0xC4 ∨ op = 0xC5 then mod3
  else if op = 0x8F ∨ op = 0xC6 ∨ op = 0xC7 then decide (reg ≠ 0)
  else if op = 0xC0 ∨ op = 0xC1 ∨ op = 0xD0 ∨ op = 0xD1 ∨ op = 0xD2 ∨ op = 0xD3 then decide (reg = 6)
  else if op = 0xF6 ∨ op = 0xF7 then decide (reg = 1 ∨ 4 ≤ reg)
  else if op = 0xFE then decide (2 ≤ reg)
  else if op = 0xFF then decide (reg = 7) || (decide (reg = 3 ∨ reg = 5) && mod3)
  else false

/-- The descriptor matches the address (20_memory R53), on numbers. -/
def matchesAddr (d : Region) (a : Addr) : Prop :=
  d.start.toNat ≤ (a &&& ~~~d.mirror).toNat ∧ (a &&& ~~~d.mirror).toNat ≤ d.last.toNat

/-! ## A slice of execution -/

/-- The state after a step; a step that stops leaves it. -/
def stepOnce (s : State) : State :=
  match step s with
  | .next t => t
  | .fault _ => s
  | .refused _ => s

/-- The state after `n` steps. -/
def afterSteps (n : Nat) (s : State) : State := stepOnce^[n] s

/-- The state after the instruction at CS:pc has retired, before the end of its pass (70_reset_and_hazards R381). -/
def retired (s : State) : State :=
  match instruction s with
  | .next r => r.2
  | .fault _ => s
  | .refused _ => s

/-- The step from this state accepts an interrupt: while halted its InterruptCheck does; else the InterruptCheck after the
instruction, unless the instruction's handlers asked for a reset (70_reset_and_hazards R380). -/
def accepts (s : State) : Bool :=
  if s.halted then (interruptCheck s).1 else !(retired s).resetReq && (interruptCheck (retired s)).1

/-- What the step from this state adds to `consumed`: the cost of the instruction fetched, and that of an acceptance; 0 for a
halted core that nothing wakes (70_reset_and_hazards R380, R384). -/
def costOf (c : Costs) (s : State) : Nat :=
  (if s.halted then 0 else c.instr (fetchInstruction (clearPrefixes s)).1) + (if accepts s then c.accept else 0)

/-- The sum of the costs of the first `n` steps. -/
def consumedBy (c : Costs) (n : Nat) (s : State) : Nat := ((List.range n).map fun k => costOf c (afterSteps k s)).sum

end Sys2Proof.Machine
end

