-- ==== Sys2Proof/Certificates/Slice0/Obligations.lean ====
section
/-! DEFINITION. The statements for the provers. -/

open Sys2Proof Sys2Proof.Machine

/-! ## Frames: what each instruction leaves unchanged -/

/-- Every general register keeps its value but those `effects` names: a 16-bit register not named and with no half named,
and a byte half not named whose whole is not named. -/
def Obligations.RegisterFrame : Prop :=
  ∀ (i : Instr) (s t : State), exec i s = .next t →
    (∀ r, r ∉ (effects i s).regs16 → (∀ b ∈ (effects i s).regs8, wholeOf b ≠ r) → t.reg16 r = s.reg16 r) ∧
    (∀ b, b ∉ (effects i s).regs8 → wholeOf b ∉ (effects i s).regs16 → t.reg8 b = s.reg8 b)

/-- Every flag keeps its value but those `effects` names, and the fixed bits of FLAGS stay as they must read. -/
def Obligations.FlagFrame : Prop :=
  ∀ (i : Instr) (s t : State), exec i s = .next t →
    (∀ x, x ∉ (effects i s).flags → getFlag x t.flags = getFlag x s.flags) ∧
    (FlagsFixed s.flags → FlagsFixed t.flags)

/-- Every segment register keeps its value but those `effects` names, and `pc` (which is `pc_next` here) keeps its value
unless the instruction is a control transfer. -/
def Obligations.SegmentAndPcFrame : Prop :=
  ∀ (i : Instr) (s t : State), exec i s = .next t →
    (∀ j, j ∉ (effects i s).sregs → t.sreg j = s.sreg j) ∧ ((effects i s).jumps = false → t.pc = s.pc)

/-- VECTOR, the platform and the trace are written by no instruction; HALTED only by HLT, NOINT only by a segment-register
load, the prefix state only by a prefix; PENDING, LINE, the reset request and the device records only where an address that
the instruction reads or stores to selects a handler. -/
def Obligations.ControlStateFrame : Prop :=
  ∀ (i : Instr) (s t : State), exec i s = .next t →
    SameOutside s t ∧ (i ≠ .hlt → t.halted = s.halted) ∧ ((effects i s).window = false → t.noint = s.noint) ∧
    (i.isPrefix = false → t.segov = s.segov ∧ t.rep = s.rep) ∧
    (quiet (loads i s ++ (effects i s).stores) s = true → SameController s t)

/-- Every byte of memory reads as before but the bytes the instruction stores to, at the addresses `effects` computes; an
instruction that stores nothing leaves all stores as they were. -/
def Obligations.MemoryFrame : Prop :=
  ∀ (i : Instr) (s t : State), exec i s = .next t →
    (∀ x, (∀ a ∈ (effects i s).stores, writeCell s.map a = none ∨ writeCell s.map a ≠ readCell s.map x) →
      peek8 x t = peek8 x s) ∧
    ((effects i s).stores = [] → t.mem = s.mem)

/-! ## Encoding -/

/-- Decoding the encoding of a well-formed item gives it back, with whatever bytes follow left over: no bit of an operand is
dropped (30_encoding R90 to R105). -/
def Obligations.DecodeOfEncode : Prop :=
  ∀ (i : Instr) (rest : List Byte), i.wf = true → decodeItem (encode i ++ rest) = .got i rest

/-- The same of a whole instruction with up to four prefixes, which is at most ten bytes long (30_encoding R90, R92, R93). -/
def Obligations.DecodeOfEncodeWithPrefixes : Prop :=
  ∀ (d : Decoded) (rest : List Byte), d.instr.wf = true → d.instr.isPrefix = false →
    d.prefixes.all Instr.isPrefix = true → d.prefixes.length ≤ 4 →
    decodeBytes (encodeDecoded d ++ rest) = .got d rest ∧ 1 ≤ (encodeDecoded d).length ∧ (encodeDecoded d).length ≤ 10

/-- Each byte sequence that decodes is the encoding of the one well-formed item it decodes to: the encodings are disjoint
(30_encoding R103). -/
def Obligations.EncodeOfDecode : Prop :=
  ∀ (i : Instr) (bytes rest : List Byte), decodeItem bytes = .got i rest → i.wf = true ∧ bytes = encode i ++ rest

/-- Ten bytes always suffice: they decode to an instruction or are illegal (30_encoding R90, R103). -/
def Obligations.TenBytesDecide : Prop :=
  ∀ bytes : List Byte, 10 ≤ bytes.length →
    decodeBytes bytes = .illegal ∨ ∃ d rest, decodeBytes bytes = .got d rest ∧ d.instr.wf = true ∧
      d.prefixes.length ≤ 4 ∧ bytes = encodeDecoded d ++ rest

/-- The illegal encodings are exactly those of the list of 30_encoding R106, each recognised at the opcode byte or at the
ModRM byte; and a fifth consecutive prefix byte makes the instruction an illegal opcode, whatever follows, where four do
not (R93). -/
def Obligations.IllegalEncodings : Prop :=
  (∀ op rest, op ∈ illegalOpcodes → decodeItem (op :: rest) = .illegal) ∧
  (∀ op, op ∉ illegalOpcodes → decodeItem [op] ≠ .illegal) ∧
  (∀ op m rest, op ∉ illegalOpcodes → (decodeItem (op :: m :: rest) = .illegal ↔ illegalModRM op m = true)) ∧
  (∀ (ps : List Instr) (rest : List Byte), ps.all Instr.isPrefix = true → ps.length = 5 →
    decodeBytes (ps.flatMap encode ++ rest) = .illegal ∧ decodeBytes ((ps.take 4).flatMap encode) = .more)

/-- Words written out from the examples of the spec decode to the instructions they stand for. -/
def Obligations.DecodeSanity : Prop :=
  decodeItem [0x89, 0x07] = .got (.movEwGw (.mem (.plain .bx)) .ax) [] ∧
  decodeItem [0x8A, 0x26, 0x34, 0x12] = .got (.movGbEb .ah (.mem (.direct 0x1234))) [] ∧
  decodeItem [0x83, 0xD2, 0x00] = .got (.adcEwIbs (.reg .dx) 0x00) [] ∧
  decodeItem [0xC7, 0x06, 0x00, 0x03, 0xCD, 0xAB] = .got (.movEwIw (.mem (.direct 0x0300)) 0xABCD) [] ∧
  decodeItem [0xC0, 0xF8, 0x02] = .got (.sarEbCnt8 (.reg .al) 0x02) [] ∧
  decodeItem [0xEA, 0x00, 0x01, 0x00, 0xF0] = .got (.jmpFar 0x0100 0xF000) [] ∧
  decodeItem [0xFF, 0x36, 0x00, 0x05] = .got (.pushEw (.mem (.direct 0x0500))) [] ∧
  decodeBytes [0x26, 0xA2, 0x10, 0x00] = .got { prefixes := [.segES], instr := .movMoffsAL 0x0010 } [] ∧
  decodeBytes [0xF3, 0xA4] = .got { prefixes := [.rep], instr := .movsb } []

/-! ## Add and subtract -/

/-- ADD and ADC in every form: the sum modulo the width, CF the carry out, OF signed overflow, AF the carry out of bit 3, SF,
ZF and PF of the result, no other bit of FLAGS; ADC adds CF as it was (41_arithmetic R171, R173 to R175). -/
def Obligations.AdditionResults : Prop :=
  AluRuns addForms (Adds false) ∧ AluRuns adcForms (fun a b f r g => Adds (getFlag .CF f) a b f r g)

/-- SUB and SBB in every form: the difference modulo the width, CF the borrow, OF signed overflow, AF the borrow into bit 3;
SBB subtracts CF as it was (41_arithmetic R172, R173, R176, R177). -/
def Obligations.SubtractionResults : Prop :=
  AluRuns subForms (Subtracts false) ∧ AluRuns sbbForms (fun a b f r g => Subtracts (getFlag .CF f) a b f r g)

/-- CMP in every form writes FLAGS alone, as SUB does; so ZF = 1 iff `a = b`, CF = 1 iff `a < b` unsigned, and SF differs from
OF iff `a < b` signed (41_arithmetic R173, R178). -/
def Obligations.CompareResults : Prop :=
  CompareRuns cmpForms (fun a b f r g => Subtracts false a b f r g ∧
    (getFlag .ZF g = true ↔ a = b) ∧ (getFlag .CF g = true ↔ a.toNat < b.toNat) ∧
    (getFlag .SF g ≠ getFlag .OF g ↔ a.toInt < b.toInt))

/-- INC and DEC: the operand plus or minus 1 with the flags of ADD and SUB, but CF is kept (41_arithmetic R179 to R182). -/
def Obligations.IncrementResults : Prop :=
  (∀ s reg, ∃ r g, exec (.incR16 reg) s = .next (setReg16 reg r (setFlags g s)) ∧
    SumOf (s.reg16 reg) 1 false r g ∧ keepsAllBut [.PF, .AF, .ZF, .SF, .OF] s.flags g) ∧
  (∀ s reg, ∃ r g, exec (.decR16 reg) s = .next (setReg16 reg r (setFlags g s)) ∧
    DifferenceOf (s.reg16 reg) 1 false r g ∧ keepsAllBut [.PF, .AF, .ZF, .SF, .OF] s.flags g) ∧
  UnaryRuns .incEb .incEw (fun a f r g => SumOf a 1 false r g ∧ keepsAllBut [.PF, .AF, .ZF, .SF, .OF] f g) ∧
  UnaryRuns .decEb .decEw (fun a f r g => DifferenceOf a 1 false r g ∧ keepsAllBut [.PF, .AF, .ZF, .SF, .OF] f g)

/-- NEG subtracts from 0: CF = 1 iff the operand is not 0, OF = 1 iff it is the most negative value, AF = 1 iff its low four
bits are not 0 (41_arithmetic R183). NOT inverts every bit and changes no flag (42_logical R205). -/
def Obligations.NegateAndNotResults : Prop :=
  UnaryRuns .negEb .negEw (fun {w} a f r g => Subtracts false 0#w a f r g ∧ (getFlag .CF g = true ↔ a ≠ 0#w) ∧
    (getFlag .OF g = true ↔ a.toNat = 2 ^ (w - 1)) ∧ (getFlag .AF g = true ↔ a.toNat % 16 ≠ 0)) ∧
  UnaryRuns .notEb .notEw (fun {w} a f r g => g = f ∧ r.toNat = 2 ^ w - 1 - a.toNat)

/-! ## Logical -/

/-- AND, OR and XOR in every form: the result bit by bit, CF = OF = AF = 0, SF, ZF and PF of the result; TEST in every form:
the flags of AND, and nothing else is written (41_arithmetic R173, 42_logical R200 to R204). -/
def Obligations.LogicalResults : Prop :=
  AluRuns andForms (Bitwise and) ∧ AluRuns orForms (Bitwise or) ∧ AluRuns xorForms (Bitwise xor) ∧
  ∀ s : State,
    (∀ rm reg, ∃ r g, exec (.testEbGb rm reg) s = .next (setFlags g (operand8 rm s).2) ∧
      Bitwise and (operand8 rm s).1 (s.reg8 reg) s.flags r g) ∧
    (∀ rm reg, ∃ r g, exec (.testEwGw rm reg) s = .next (setFlags g (operand16 rm s).2) ∧
      Bitwise and (operand16 rm s).1 (s.reg16 reg) s.flags r g) ∧
    (∀ imm, ∃ r g, exec (.testALIb imm) s = .next (setFlags g s) ∧ Bitwise and (s.reg8 .al) imm s.flags r g) ∧
    (∀ imm, ∃ r g, exec (.testAXIw imm) s = .next (setFlags g s) ∧ Bitwise and s.regs.ax imm s.flags r g) ∧
    (∀ rm imm, ∃ r g, exec (.testEbIb rm imm) s = .next (setFlags g (operand8 rm s).2) ∧
      Bitwise and (operand8 rm s).1 imm s.flags r g) ∧
    (∀ rm imm, ∃ r g, exec (.testEwIw rm imm) s = .next (setFlags g (operand16 rm s).2) ∧
      Bitwise and (operand16 rm s).1 imm s.flags r g)

/-! ## Shift and rotate -/

/-- ROL, ROR, RCL and RCR in every form, by the closed forms of 43_shift_rotate R230: RCL and RCR rotate the carry and the
operand together, one bit wider; flags by R222; a count of 0 writes nothing (R220). -/
def Obligations.RotateResults : Prop :=
  ShiftRuns rolForms (fun v c f r g => r = v.rotateLeft c ∧ LeftRotateFlags r (r.getLsbD 0) f g) ∧
  ShiftRuns rorForms (fun v c f r g => r = v.rotateRight c ∧ RightRotateFlags r r.msb f g) ∧
  ShiftRuns rclForms (fun v c f r g => ∃ cf, BitVec.cons cf r = (BitVec.cons (getFlag .CF f) v).rotateLeft c ∧
    LeftRotateFlags r cf f g) ∧
  ShiftRuns rcrForms (fun v c f r g => ∃ cf, BitVec.cons cf r = (BitVec.cons (getFlag .CF f) v).rotateRight c ∧
    RightRotateFlags r cf f g)

/-- SHL, SHR and SAR in every form: multiplication by a power of two, unsigned and signed division rounding down, with the
carry the last bit out (43_shift_rotate R222, R230). -/
def Obligations.ShiftResults : Prop :=
  ShiftRuns shlForms (fun {w} v c f r g => r.toNat = v.toNat * 2 ^ c % 2 ^ w ∧
    ShiftedFlags r ((v.toNat * 2 ^ c).testBit w) (r.msb ^^ (v.toNat * 2 ^ c).testBit w) f g) ∧
  ShiftRuns shrForms (fun {w} v c f r g => r.toNat = v.toNat / 2 ^ c ∧
    ShiftedFlags r (v.toNat.testBit (c - 1)) (r.getLsbD (w - 1) ^^ r.getLsbD (w - 2)) f g) ∧
  ShiftRuns sarForms (fun v c f r g => r.toInt = v.toInt / 2 ^ c ∧
    ShiftedFlags r (decide (v.toInt / 2 ^ (c - 1) % 2 = 1)) false f g)

/-! ## Data transfer -/

/-- MOV to a register or memory operand: the source value, read before the write, goes there (40_data_transfer R130, R132,
R138). -/
def Obligations.MoveToOperand : Prop :=
  (∀ s rm reg, ∃ t, exec (.movEbGb rm reg) s = .next t ∧ Stores8 (place8 rm s) (s.reg8 reg) s t) ∧
  (∀ s rm reg, ∃ t, exec (.movEwGw rm reg) s = .next t ∧ Stores16 (place16 rm s) (s.reg16 reg) s t) ∧
  (∀ s rm j, ∃ t, exec (.movEwSw rm j) s = .next t ∧ Stores16 (place16 rm s) (s.sreg j) s t) ∧
  (∀ s rm imm, ∃ t, exec (.movEbIb rm imm) s = .next t ∧ Stores8 (place8 rm s) imm s t) ∧
  (∀ s rm imm, ∃ t, exec (.movEwIw rm imm) s = .next t ∧ Stores16 (place16 rm s) imm s t) ∧
  (∀ s moffs, ∃ t, exec (.movMoffsAL moffs) s = .next t ∧ Stores8 (.mem (sourceSeg s) moffs) (s.reg8 .al) s t) ∧
  (∀ s moffs, ∃ t, exec (.movMoffsAX moffs) s = .next t ∧ Stores16 (.mem (sourceSeg s) moffs) s.regs.ax s t)

/-- MOV to a register: it takes the value read, or the constant. XLAT reads the byte at BX plus the zero-extended AL. AL, CL,
DL and BL are the low bytes of AX, CX, DX and BX, AH, CH, DH and BH their high bytes, and a write of one byte register is
read back, changes no other and none of SP, BP, SI and DI (40_data_transfer R131, R134, R136, R137, R145; 10_state R21). -/
def Obligations.MoveToRegister : Prop :=
  (∀ s reg rm, ∃ t, exec (.movGbEb reg rm) s = .next t ∧ t.reg8 reg = (operand8 rm s).1 ∧
    t = setReg8 reg (t.reg8 reg) (operand8 rm s).2) ∧
  (∀ s reg rm, ∃ t, exec (.movGwEw reg rm) s = .next t ∧ t.reg16 reg = (operand16 rm s).1 ∧
    t = setReg16 reg (t.reg16 reg) (operand16 rm s).2) ∧
  (∀ s moffs, ∃ t, exec (.movALMoffs moffs) s = .next t ∧ t.reg8 .al = (segRead8 (sourceSeg s) moffs s).1 ∧
    t = setReg8 .al (t.reg8 .al) (segRead8 (sourceSeg s) moffs s).2) ∧
  (∀ s moffs, ∃ t, exec (.movAXMoffs moffs) s = .next t ∧ t.regs.ax = (segRead16 (sourceSeg s) moffs s).1 ∧
    t = setReg16 .ax t.regs.ax (segRead16 (sourceSeg s) moffs s).2) ∧
  (∀ s reg imm, ∃ t, exec (.movR8Ib reg imm) s = .next t ∧ t.reg8 reg = imm ∧ t = setReg8 reg imm s) ∧
  (∀ s reg imm, ∃ t, exec (.movR16Iw reg imm) s = .next t ∧ t.reg16 reg = imm ∧ t = setReg16 reg imm s) ∧
  (∀ s, ∃ t, exec .xlat s = .next t ∧
    t = setReg8 .al (t.reg8 .al)
      (segRead8 (sourceSeg s) (BitVec.ofNat 16 (s.regs.bx.toNat + (s.reg8 .al).toNat)) s).2 ∧
    t.reg8 .al = (segRead8 (sourceSeg s) (BitVec.ofNat 16 (s.regs.bx.toNat + (s.reg8 .al).toNat)) s).1) ∧
  (∀ s : State,
    (s.reg8 .al).toNat = s.regs.ax.toNat % 256 ∧ (s.reg8 .cl).toNat = s.regs.cx.toNat % 256 ∧
    (s.reg8 .dl).toNat = s.regs.dx.toNat % 256 ∧ (s.reg8 .bl).toNat = s.regs.bx.toNat % 256 ∧
    (s.reg8 .ah).toNat = s.regs.ax.toNat / 256 ∧ (s.reg8 .ch).toNat = s.regs.cx.toNat / 256 ∧
    (s.reg8 .dh).toNat = s.regs.dx.toNat / 256 ∧ (s.reg8 .bh).toNat = s.regs.bx.toNat / 256) ∧
  (∀ s reg v, (setReg8 reg v s).reg8 reg = v ∧ (∀ b, b ≠ reg → (setReg8 reg v s).reg8 b = s.reg8 b) ∧
    ∀ r ∈ [Reg16.sp, .bp, .si, .di], (setReg8 reg v s).reg16 r = s.reg16 r)

/-- A segment register loaded by MOV or POP takes the word read or popped and opens the interrupt window; ES, SS and DS alike
(40_data_transfer R133, R151). -/
def Obligations.SegmentLoads : Prop :=
  ∀ s : State,
    (∀ rm, ∃ t, exec (.movESEw rm) s = .next t ∧ t.noint = true ∧ t.segs = { s.segs with es := (operand16 rm s).1 } ∧
      t = { (operand16 rm s).2 with segs := t.segs, noint := true }) ∧
    (∀ rm, ∃ t, exec (.movSSEw rm) s = .next t ∧ t.noint = true ∧ t.segs = { s.segs with ss := (operand16 rm s).1 } ∧
      t = { (operand16 rm s).2 with segs := t.segs, noint := true }) ∧
    (∀ rm, ∃ t, exec (.movDSEw rm) s = .next t ∧ t.noint = true ∧ t.segs = { s.segs with ds := (operand16 rm s).1 } ∧
      t = { (operand16 rm s).2 with segs := t.segs, noint := true }) ∧
    (∃ t, exec .popES s = .next t ∧ t.noint = true ∧ t.segs = { s.segs with es := (popped s).1 } ∧
      t = { (popped s).2 with segs := t.segs, noint := true }) ∧
    (∃ t, exec .popSS s = .next t ∧ t.noint = true ∧ t.segs = { s.segs with ss := (popped s).1 } ∧
      t = { (popped s).2 with segs := t.segs, noint := true }) ∧
    (∃ t, exec .popDS s = .next t ∧ t.noint = true ∧ t.segs = { s.segs with ds := (popped s).1 } ∧
      t = { (popped s).2 with segs := t.segs, noint := true })

/-- XCHG: the register takes the operand and the operand the old register, one read and one write; NOP changes nothing
(40_data_transfer R139 to R141). -/
def Obligations.ExchangeResults : Prop :=
  (∀ s rm reg, exec (.xchgEbGb rm reg) s =
    .next (writePlace8 (place8 rm s) (s.reg8 reg) (setReg8 reg (operand8 rm s).1 (operand8 rm s).2))) ∧
  (∀ s rm reg, exec (.xchgEwGw rm reg) s =
    .next (writePlace16 (place16 rm s) (s.reg16 reg) (setReg16 reg (operand16 rm s).1 (operand16 rm s).2))) ∧
  (∀ s r1 r2, ∃ t, exec (.xchgEwGw (.reg r1) r2) s = .next t ∧ t.reg16 r1 = s.reg16 r2 ∧ t.reg16 r2 = s.reg16 r1) ∧
  (∀ s r1 r2, ∃ t, exec (.xchgEbGb (.reg r1) r2) s = .next t ∧ t.reg8 r1 = s.reg8 r2 ∧ t.reg8 r2 = s.reg8 r1) ∧
  (∀ s reg, ∃ t, exec (.xchgAXR16 reg) s = .next t ∧ t.regs.ax = s.reg16 reg ∧ t.reg16 reg = s.regs.ax ∧
    { t with regs := s.regs } = s) ∧
  (∀ s, exec .nop s = .next s)

/-- A memory operand, 8-bit or 16-bit, lies at the base sum and displacement of the table of 30_encoding R96 and R97, modulo
2^16, in the segment of the override if there is one, else SS for a base with BP and DS for every other form (R96, 20_memory
R66). LEA: that offset, with no access and whatever segment override. LDS and LES: the register takes the word at the effective address, DS or ES the word two bytes on, both
read before either is written; no window opens (40_data_transfer R142 to R144). -/
def Obligations.EffectiveAddressResults : Prop :=
  (∀ s m,
    let seg := s.segov.getD (if usesBP m then .ss else .ds)
    place8 (.mem m) s = .mem seg (BitVec.ofInt 16 (eaSum m s)) ∧
    place16 (.mem m) s = .mem seg (BitVec.ofInt 16 (eaSum m s))) ∧
  (∀ s reg m, exec (.lea reg m) s = .next (setReg16 reg (BitVec.ofInt 16 (eaSum m s)) s)) ∧
  ∀ s reg m,
    let o := segRead16 (eaSeg m s) (BitVec.ofInt 16 (eaSum m s)) s
    let g := segRead16 (eaSeg m s) (BitVec.ofInt 16 (eaSum m s + 2)) o.2
    exec (.lds reg m) s = .next (setReg16 reg o.1 { g.2 with segs := { s.segs with ds := g.1 } }) ∧
    exec (.les reg m) s = .next (setReg16 reg o.1 { g.2 with segs := { s.segs with es := g.1 } }) ∧
    (setReg16 reg o.1 { g.2 with segs := { s.segs with ds := g.1 } }).noint = s.noint

/-- PUSH of each operand and PUSHF: SP less 2, the word at the new SS:SP; PUSH SP, in either form, stores the decremented SP;
a memory operand is read before (40_data_transfer R146, R148, R150, R152, R154). -/
def Obligations.PushResults : Prop :=
  ∀ s : State,
    (∃ t, exec .pushES s = .next t ∧ Pushed s.segs.es s t) ∧ (∃ t, exec .pushCS s = .next t ∧ Pushed s.segs.cs s t) ∧
    (∃ t, exec .pushSS s = .next t ∧ Pushed s.segs.ss s t) ∧ (∃ t, exec .pushDS s = .next t ∧ Pushed s.segs.ds s t) ∧
    (∃ t, exec .pushf s = .next t ∧ Pushed s.flags s t) ∧
    (∀ reg, ∃ t, exec (.pushR16 reg) s = .next t ∧ Pushed (if reg = .sp then s.regs.sp - 2 else s.reg16 reg) s t) ∧
    (∀ reg, ∃ t, exec (.pushEw (.reg reg)) s = .next t ∧
      Pushed (if reg = .sp then s.regs.sp - 2 else s.reg16 reg) s t) ∧
    (∀ m, ∃ t, exec (.pushEw (.mem m)) s = .next t ∧ Pushed (operand16 (.mem m) s).1 (operand16 (.mem m) s).2 t)

/-- POP of a register or memory operand and POPF: the word at SS:SP, then SP plus 2, then the write; POP SP ends as the popped
word; POPF takes the nine flags and forces the fixed bits. CF, PF, AF, ZF, SF, TF, IF, DF and OF are bits 0, 2, 4, 6, 7, 8,
9, 10 and 11 of FLAGS (40_data_transfer R147, R149, R153, R155; 10_state R26, R27). -/
def Obligations.PopResults : Prop :=
  ∀ s : State,
    (quiet (segBytes .ss s.regs.sp 2 s) s = true →
      popped s = (peekWord .ss s.regs.sp s, { s with regs := { s.regs with sp := s.regs.sp + 2 } })) ∧
    (∀ reg, ∃ t, exec (.popR16 reg) s = .next t ∧ t.reg16 reg = (popped s).1 ∧
      t = setReg16 reg (popped s).1 (popped s).2) ∧
    (∀ rm, ∃ t, exec (.popEw rm) s = .next t ∧ Stores16 (place16 rm s) (popped s).1 (popped s).2 t) ∧
    (∃ t, exec .popf s = .next t ∧ (∀ k ∈ [0, 2, 4, 6, 7, 8, 9, 10, 11], t.flags.getLsbD k = (popped s).1.getLsbD k) ∧
      FlagsFixed t.flags ∧ t = { (popped s).2 with flags := t.flags } ∧
      (∀ x, getFlag x t.flags = getFlag x (popped s).1)) ∧
    [Flag.CF, .PF, .AF, .ZF, .SF, .TF, .IF, .DF, .OF].map flagBit = [0, 2, 4, 6, 7, 8, 9, 10, 11] ∧
    ∀ (f : Word) (x : Flag), getFlag x f = f.getLsbD (flagBit x)

/-- LAHF, SAHF, CBW and CWD: AH is the low byte of FLAGS; SF, ZF, AF, PF, CF are bits 7, 6, 4, 2, 0 of AH; AX keeps AL's signed
value; DX:AX keeps AX's (40_data_transfer R156 to R159). -/
def Obligations.AccumulatorTransfers : Prop :=
  ∀ s : State,
    (∃ t, exec .lahf s = .next t ∧ (t.reg8 .ah).toNat = s.flags.toNat % 256 ∧ t = setReg8 .ah (t.reg8 .ah) s) ∧
    (∃ g, exec .sahf s = .next (setFlags g s) ∧ getFlag .SF g = (s.reg8 .ah).getLsbD 7 ∧
      getFlag .ZF g = (s.reg8 .ah).getLsbD 6 ∧ getFlag .AF g = (s.reg8 .ah).getLsbD 4 ∧
      getFlag .PF g = (s.reg8 .ah).getLsbD 2 ∧ getFlag .CF g = (s.reg8 .ah).getLsbD 0 ∧
      (FlagsFixed s.flags → keepsAllBut [.SF, .ZF, .AF, .PF, .CF] s.flags g)) ∧
    (∃ t, exec .cbw s = .next t ∧ t.regs.ax.toInt = (s.reg8 .al).toInt ∧ t = setReg16 .ax t.regs.ax s) ∧
    (∃ t, exec .cwd s = .next t ∧ (t.regs.dx ++ t.regs.ax).toInt = s.regs.ax.toInt ∧ t = setReg16 .dx t.regs.dx s) ∧
    decodeItem [0x9F] = .got .lahf [] ∧ decodeItem [0x9E] = .got .sahf [] ∧ decodeItem [0x98] = .got .cbw [] ∧
    decodeItem [0x99] = .got .cwd []

/-! ## Strings -/

/-- The string instructions without a repeat prefix, one element: the source at the overridable DS:SI, the destination at
ES:DI, SI and DI moved by the element's size up or down by DF; CMPS and SCAS set the flags of source or accumulator minus
destination (44_string R240, R242 to R246). -/
def Obligations.StringElements : Prop :=
  ∀ s : State, s.rep = none →
    (let v := segRead8 (sourceSeg s) s.regs.si s;
      exec .movsb s = .next (setReg16 .di (s.regs.di + stride 1 s) (setReg16 .si (s.regs.si + stride 1 s)
        (segWrite8 .es s.regs.di v.1 v.2)))) ∧
    (let v := segRead16 (sourceSeg s) s.regs.si s;
      exec .movsw s = .next (setReg16 .di (s.regs.di + stride 2 s) (setReg16 .si (s.regs.si + stride 2 s)
        (segWrite16 .es s.regs.di v.1 v.2)))) ∧
    (let a := segRead8 (sourceSeg s) s.regs.si s;
      let b := segRead8 .es s.regs.di a.2;
      ∃ r g, exec .cmpsb s = .next (setReg16 .di (s.regs.di + stride 1 s) (setReg16 .si (s.regs.si + stride 1 s)
        (setFlags g b.2))) ∧ Subtracts false a.1 b.1 s.flags r g) ∧
    (let a := segRead16 (sourceSeg s) s.regs.si s;
      let b := segRead16 .es s.regs.di a.2;
      ∃ r g, exec .cmpsw s = .next (setReg16 .di (s.regs.di + stride 2 s) (setReg16 .si (s.regs.si + stride 2 s)
        (setFlags g b.2))) ∧ Subtracts false a.1 b.1 s.flags r g) ∧
    exec .stosb s = .next (setReg16 .di (s.regs.di + stride 1 s) (segWrite8 .es s.regs.di (s.reg8 .al) s)) ∧
    exec .stosw s = .next (setReg16 .di (s.regs.di + stride 2 s) (segWrite16 .es s.regs.di s.regs.ax s)) ∧
    (let v := segRead8 (sourceSeg s) s.regs.si s;
      exec .lodsb s = .next (setReg16 .si (s.regs.si + stride 1 s) (setReg8 .al v.1 v.2))) ∧
    (let v := segRead16 (sourceSeg s) s.regs.si s;
      exec .lodsw s = .next (setReg16 .si (s.regs.si + stride 2 s) (setReg16 .ax v.1 v.2))) ∧
    (let b := segRead8 .es s.regs.di s;
      ∃ r g, exec .scasb s = .next (setReg16 .di (s.regs.di + stride 1 s) (setFlags g b.2)) ∧
        Subtracts false (s.reg8 .al) b.1 s.flags r g) ∧
    (let b := segRead16 .es s.regs.di s;
      ∃ r g, exec .scasw s = .next (setReg16 .di (s.regs.di + stride 2 s) (setFlags g b.2)) ∧
        Subtracts false s.regs.ax b.1 s.flags r g)

/-- MOVS, STOS and LODS under either repeat prefix: `One()` and the decrement of CX, as many times as CX says; CX ends 0 and
with CX = 0 nothing happens (44_string R241). -/
def Obligations.RepeatedMoves : Prop :=
  ∀ (s : State) (r : Rep) (i : Instr), i ∈ [Instr.movsb, .movsw, .stosb, .stosw, .lodsb, .lodsw] → s.rep = some r →
    exec i s = .next ((onePassOf i)^[s.regs.cx.toNat] s) ∧ ((onePassOf i)^[s.regs.cx.toNat] s).regs.cx = 0

/-- CMPS and SCAS under a repeat prefix: passes of `One()` and the decrement of CX, until CX is 0 or, after a pass, ZF says
stop; no earlier pass says stop (44_string R241). -/
def Obligations.RepeatedCompares : Prop :=
  ∀ (s : State) (r : Rep) (i : Instr), i ∈ [Instr.cmpsb, .cmpsw, .scasb, .scasw] → s.rep = some r →
    ∃ n, n ≤ s.regs.cx.toNat ∧ exec i s = .next ((onePassOf i)^[n] s) ∧
      ((onePassOf i)^[n] s).regs.cx = s.regs.cx - BitVec.ofNat 16 n ∧
      (∀ k, 0 < k → k < n → stopsOnZf ((onePassOf i)^[k] s) = false) ∧
      (n = s.regs.cx.toNat ∨ (0 < n ∧ stopsOnZf ((onePassOf i)^[n] s) = true))

/-- REP MOVSB between areas of memory that share no byte copies: each destination byte holds what its source byte held; CX is
0, SI and DI have moved past the areas (44_string R240 to R242). -/
def Obligations.RepeatedMoveCopies : Prop :=
  ∀ (s : State) (r : Rep), Memory.wf s.mem = true → s.rep = some r → onRam (elementBytes 1 s) s = true →
    (∀ k, k < s.regs.cx.toNat →
      isDevice s.map (phys (s.sreg (sourceSeg s)) (s.regs.si + BitVec.ofNat 16 k * stride 1 s)) = false ∧
      ∀ a ∈ elementBytes 1 s,
        writeCell s.map a ≠ readCell s.map (phys (s.sreg (sourceSeg s)) (s.regs.si + BitVec.ofNat 16 k * stride 1 s))) →
    ∃ t, exec .movsb s = .next t ∧ t.regs.cx = 0 ∧ t.regs.si = s.regs.si + s.regs.cx * stride 1 s ∧
      t.regs.di = s.regs.di + s.regs.cx * stride 1 s ∧
      ∀ k, k < s.regs.cx.toNat →
        peekByte .es (s.regs.di + BitVec.ofNat 16 k * stride 1 s) t =
          peekByte (sourceSeg s) (s.regs.si + BitVec.ofNat 16 k * stride 1 s) s

/-! ## Control transfer -/

/-- The sixteen conditional jumps, opcodes 70 to 7F: taken, pc is `pc_next` plus the signed displacement modulo 2^16; not
taken, pc stays; nothing else changes (45_control_transfer R260, R261). -/
def Obligations.ConditionalJumps : Prop :=
  let jumpsWhen (op : Byte) (jcc : Byte → Instr) (cond : Word → Prop) : Prop := ∀ s rel,
    decodeItem [op, rel] = .got (jcc rel) [] ∧
    (cond s.flags → exec (jcc rel) s = .next { s with pc := BitVec.ofInt 16 (s.pc.toNat + rel.toInt) }) ∧
    (¬ cond s.flags → exec (jcc rel) s = .next s)
  jumpsWhen 0x70 .jo (fun f => getFlag .OF f = true) ∧ jumpsWhen 0x71 .jno (fun f => getFlag .OF f = false) ∧
  jumpsWhen 0x72 .jb (fun f => getFlag .CF f = true) ∧ jumpsWhen 0x73 .jae (fun f => getFlag .CF f = false) ∧
  jumpsWhen 0x74 .je (fun f => getFlag .ZF f = true) ∧ jumpsWhen 0x75 .jne (fun f => getFlag .ZF f = false) ∧
  jumpsWhen 0x76 .jbe (fun f => getFlag .CF f = true ∨ getFlag .ZF f = true) ∧
  jumpsWhen 0x77 .ja (fun f => getFlag .CF f = false ∧ getFlag .ZF f = false) ∧
  jumpsWhen 0x78 .js (fun f => getFlag .SF f = true) ∧ jumpsWhen 0x79 .jns (fun f => getFlag .SF f = false) ∧
  jumpsWhen 0x7A .jp (fun f => getFlag .PF f = true) ∧ jumpsWhen 0x7B .jnp (fun f => getFlag .PF f = false) ∧
  jumpsWhen 0x7C .jl (fun f => getFlag .SF f ≠ getFlag .OF f) ∧ jumpsWhen 0x7D .jge (fun f => getFlag .SF f = getFlag .OF f) ∧
  jumpsWhen 0x7E .jle (fun f => getFlag .ZF f = true ∨ getFlag .SF f ≠ getFlag .OF f) ∧
  jumpsWhen 0x7F .jg (fun f => getFlag .ZF f = false ∧ getFlag .SF f = getFlag .OF f)

/-- After a CMP of two registers the jumps compare them: JB, JBE, JA, JAE as unsigned numbers, JL, JLE, JG, JGE as signed ones,
JE and JNE for equality (41_arithmetic R178, R184; 45_control_transfer R261). -/
def Obligations.JumpsAfterCompare : Prop :=
  ∀ (s t : State) (r1 r2 : Reg16), exec (.cmpEwGw (.reg r1) r2) s = .next t →
    let a := s.reg16 r1
    let b := s.reg16 r2
    let taken (jcc : Byte → Instr) : Prop := ∀ rel, exec (jcc rel) t = .next { t with pc := BitVec.ofInt 16 (t.pc.toNat + rel.toInt) }
    let skipped (jcc : Byte → Instr) : Prop := ∀ rel, exec (jcc rel) t = .next t
    (if a.toNat < b.toNat then taken .jb ∧ skipped .jae else skipped .jb ∧ taken .jae) ∧
    (if a.toNat ≤ b.toNat then taken .jbe ∧ skipped .ja else skipped .jbe ∧ taken .ja) ∧
    (if a.toInt < b.toInt then taken .jl ∧ skipped .jge else skipped .jl ∧ taken .jge) ∧
    (if a.toInt ≤ b.toInt then taken .jle ∧ skipped .jg else skipped .jle ∧ taken .jg) ∧
    (if a = b then taken .je ∧ skipped .jne else skipped .je ∧ taken .jne)

/-- LOOP, LOOPE and LOOPNE take 1 from CX with no flag changed, and jump when the new CX is not 0 and ZF is as asked; JCXZ
jumps when CX is 0 and changes nothing else (45_control_transfer R262 to R265). -/
def Obligations.LoopResults : Prop :=
  ∀ (s : State) (rel : Byte),
    let target := BitVec.ofInt 16 (s.pc.toNat + rel.toInt)
    let less := s.regs.cx - 1
    let goes (p : Prop) [Decidable p] : State :=
      { s with regs := { s.regs with cx := less }, pc := if p then target else s.pc }
    exec (.loop rel) s = .next (goes (s.regs.cx ≠ 1)) ∧
    exec (.loope rel) s = .next (goes (s.regs.cx ≠ 1 ∧ getFlag .ZF s.flags = true)) ∧
    exec (.loopne rel) s = .next (goes (s.regs.cx ≠ 1 ∧ getFlag .ZF s.flags = false)) ∧
    exec (.jcxz rel) s = .next { s with pc := if s.regs.cx = 0 then target else s.pc } ∧
    decodeItem [0xE2, rel] = .got (.loop rel) [] ∧ decodeItem [0xE1, rel] = .got (.loope rel) [] ∧
    decodeItem [0xE0, rel] = .got (.loopne rel) [] ∧ decodeItem [0xE3, rel] = .got (.jcxz rel) []

/-- The jumps: pc is `pc_next` plus the displacement modulo 2^16, the operand, or the offset of a far pointer with CS its
segment (45_control_transfer R260, R266 to R270). -/
def Obligations.JumpResults : Prop :=
  ∀ s : State,
    (∀ rel, exec (.jmpRel8 rel) s = .next { s with pc := BitVec.ofInt 16 (s.pc.toNat + rel.toInt) }) ∧
    (∀ rel, exec (.jmpRel16 rel) s = .next { s with pc := BitVec.ofNat 16 (s.pc.toNat + rel.toNat) }) ∧
    (∀ off seg, exec (.jmpFar off seg) s = .next { s with pc := off, segs := { s.segs with cs := seg } }) ∧
    (∀ rm, exec (.jmpEw rm) s = .next { (operand16 rm s).2 with pc := (operand16 rm s).1 }) ∧
    (∀ m, let o := segRead16 (eaSeg m s) (BitVec.ofInt 16 (eaSum m s)) s
      let g := segRead16 (eaSeg m s) (BitVec.ofInt 16 (eaSum m s + 2)) o.2
      exec (.jmpFarM m) s = .next { g.2 with pc := o.1, segs := { s.segs with cs := g.1 } })

/-- The calls push the return address (CS first for a far call, then `pc_next`) and go to the target, which an indirect call
reads before it pushes (45_control_transfer R271 to R274). -/
def Obligations.CallResults : Prop :=
  ∀ s : State,
    (∀ rel, ∃ u, exec (.callRel16 rel) s = .next { u with pc := BitVec.ofNat 16 (s.pc.toNat + rel.toNat) } ∧
      Pushed s.pc s u) ∧
    (∀ rm, ∃ u, exec (.callEw rm) s = .next { u with pc := (operand16 rm s).1 } ∧ Pushed s.pc (operand16 rm s).2 u) ∧
    (∀ off seg, ∃ u v, exec (.callFar off seg) s = .next { v with pc := off, segs := { s.segs with cs := seg } } ∧
      Pushed s.segs.cs s u ∧ Pushed s.pc u v) ∧
    (∀ m, let o := segRead16 (eaSeg m s) (BitVec.ofInt 16 (eaSum m s)) s
      let g := segRead16 (eaSeg m s) (BitVec.ofInt 16 (eaSum m s + 2)) o.2
      ∃ u v, exec (.callFarM m) s = .next { v with pc := o.1, segs := { s.segs with cs := g.1 } } ∧
        Pushed s.segs.cs g.2 u ∧ Pushed s.pc u v)

/-- The returns pop pc, and a far return then CS; the forms with a count then add it to SP (45_control_transfer R275 to R278). -/
def Obligations.ReturnResults : Prop :=
  ∀ s : State,
    let near : State := { (popped s).2 with pc := (popped s).1 }
    let second := popped (popped s).2
    let far : State := { second.2 with pc := (popped s).1, segs := { s.segs with cs := second.1 } }
    exec .ret s = .next near ∧
    (∀ cnt, exec (.retPop cnt) s = .next { near with regs := { near.regs with sp := s.regs.sp + 2 + cnt } }) ∧
    exec .retf s = .next far ∧
    (∀ cnt, exec (.retfPop cnt) s = .next { far with regs := { far.regs with sp := s.regs.sp + 4 + cnt } })

/-- A call returns: where the stack slots are RAM, CALL then RET, and far CALL then RETF, come back to `pc_next` and the old
CS with every register and FLAGS as before (45_control_transfer R271, R272, R275, R277). -/
def Obligations.CallReturnRoundTrip : Prop :=
  ∀ s : State, Memory.wf s.mem = true →
    (∀ rel, onRam (segBytes .ss (s.regs.sp - 2) 2 s) s = true →
      ∃ t u, exec (.callRel16 rel) s = .next t ∧ exec .ret t = .next u ∧ u = { s with mem := t.mem }) ∧
    (∀ off seg, onRam (segBytes .ss (s.regs.sp - 4) 4 s) s = true →
      ∃ t u, exec (.callFar off seg) s = .next t ∧ exec .retf t = .next u ∧ u = { s with mem := t.mem })

/-! ## Traps -/

/-- INT vec8, INT3 (vector 3) and INTO with OF set (vector 4) take the trap with `pc_next` as the return offset, whatever IF;
INTO with OF clear does nothing (45_control_transfer R279 to R281; 60_exceptions R321, R323). -/
def Obligations.SoftwareInterrupts : Prop :=
  ∀ s : State,
    (∀ vec, ∃ t, exec (.int vec) s = .next t ∧ TrapEntered vec s.pc s t) ∧
    (∃ t, exec .int3 s = .next t ∧ TrapEntered 3 s.pc s t) ∧
    (getFlag .OF s.flags = true → ∃ t, exec .into s = .next t ∧ TrapEntered 4 s.pc s t) ∧
    (getFlag .OF s.flags = false → exec .into s = .next s)

/-- IRET pops pc, CS and FLAGS in that order; all nine flags come from the popped word and the fixed bits are forced
(45_control_transfer R282). -/
def Obligations.InterruptReturn : Prop :=
  decodeItem [0xCF] = .got .iret [] ∧ ∀ s : State, ∃ t, exec .iret s = .next t ∧
    t.pc = (popped s).1 ∧ t.segs = { s.segs with cs := (popped (popped s).2).1 } ∧
    (∀ x, getFlag x t.flags = getFlag x (popped (popped (popped s).2).2).1) ∧ FlagsFixed t.flags ∧
    t = { (popped (popped (popped s).2).2).2 with pc := t.pc, segs := t.segs, flags := t.flags }

/-- A trap returns: where the stack is RAM and the vector table no device, INT and then IRET give back pc, CS, SP, every other
register and FLAGS with IF and TF as they were (60_exceptions R321, R332). -/
def Obligations.TrapReturnRoundTrip : Prop :=
  ∀ (s : State) (vec : Byte), Memory.wf s.mem = true → FlagsFixed s.flags →
    onRam (segBytes .ss (s.regs.sp - 6) 6 s) s = true →
    quiet ((List.range 4).map fun k => BitVec.ofNat 20 (4 * vec.toNat + k)) s = true →
    ∃ t u, exec (.int vec) s = .next t ∧ exec .iret t = .next u ∧ u = { s with mem := t.mem }

/-! ## Processor control and prefixes -/

/-- CLC, STC, CMC, CLI, STI, CLD and STD write the one flag; HLT sets HALTED and nothing else (46_processor_control R300 to
R307). -/
def Obligations.FlagControl : Prop :=
  ∀ s : State,
    (∃ g, exec .clc s = .next { s with flags := g } ∧ getFlag .CF g = false ∧ keepsAllBut [.CF] s.flags g) ∧
    (∃ g, exec .stc s = .next { s with flags := g } ∧ getFlag .CF g = true ∧ keepsAllBut [.CF] s.flags g) ∧
    (∃ g, exec .cmc s = .next { s with flags := g } ∧ getFlag .CF g = !getFlag .CF s.flags ∧
      keepsAllBut [.CF] s.flags g) ∧
    (∃ g, exec .cli s = .next { s with flags := g } ∧ getFlag .IF g = false ∧ keepsAllBut [.IF] s.flags g) ∧
    (∃ g, exec .sti s = .next { s with flags := g } ∧ getFlag .IF g = true ∧ keepsAllBut [.IF] s.flags g) ∧
    (∃ g, exec .cld s = .next { s with flags := g } ∧ getFlag .DF g = false ∧ keepsAllBut [.DF] s.flags g) ∧
    (∃ g, exec .std s = .next { s with flags := g } ∧ getFlag .DF g = true ∧ keepsAllBut [.DF] s.flags g) ∧
    exec .hlt s = .next { s with halted := true } ∧
    decodeItem [0xF8] = .got .clc [] ∧ decodeItem [0xF9] = .got .stc [] ∧ decodeItem [0xF5] = .got .cmc [] ∧
    decodeItem [0xFA] = .got .cli [] ∧ decodeItem [0xFB] = .got .sti [] ∧ decodeItem [0xFC] = .got .cld [] ∧
    decodeItem [0xFD] = .got .std [] ∧ decodeItem [0xF4] = .got .hlt []

/-- The prefix bytes: a run of them leaves the last segment override and the last repeat prefix in force and changes nothing
else; LOCK does nothing (30_encoding R92, R93; 46_processor_control R308). -/
def Obligations.PrefixRun : Prop :=
  (∀ (s : State) (ps : List Instr), ps.all Instr.isPrefix = true →
    runItems ps s = .next { s with
      segov := (lastOverride ps).or s.segov
      rep := (lastRepeat ps).or s.rep }) ∧
  (∀ s : State, exec .segES s = .next { s with segov := some .es } ∧ exec .segCS s = .next { s with segov := some .cs } ∧
    exec .segSS s = .next { s with segov := some .ss } ∧ exec .segDS s = .next { s with segov := some .ds } ∧
    exec .lock s = .next s ∧ exec .repne s = .next { s with rep := some .ne } ∧ exec .rep s = .next { s with rep := some .e })

/-! ## The step -/

/-- A step runs the decoded instruction: where the bytes at CS:pc, off the devices, decode to `d`, the step is `exec` of its
instruction with pc at `pc_next` and its last override and repeat prefix in force; then the instruction retires (prefixes
forgotten, hook recorded), and a reset a handler asked for or the InterruptCheck follows (70_reset_and_hazards R380, R381;
30_encoding R91, R102). -/
def Obligations.StepRunsDecodedInstruction : Prop :=
  ∀ (s : State) (d : Decoded) (bytes : List Byte), decodeBytes bytes = .got d [] → bytesAt .cs s.pc bytes s →
    quiet (segBytes .cs s.pc bytes.length s) s = true → s.halted = false → mapWf s.map = true →
    ∃ t, exec d.instr { s with
        pc := s.pc + BitVec.ofNat 16 bytes.length
        segov := lastOverride d.prefixes
        rep := lastRepeat d.prefixes } = .next t ∧
      step s = .next (boundary { t with
        segov := none
        rep := none
        trace := t.trace ++ [phys s.segs.cs s.pc] }).2

/-- An illegal opcode traps through vector 6 with the offset of its first byte, and has no other effect; the hook and the
InterruptCheck follow as after any instruction (60_exceptions R322, R321; 30_encoding R106). -/
def Obligations.IllegalOpcodeTraps : Prop :=
  ∀ (s : State) (bytes : List Byte), decodeBytes bytes = .illegal →
    (∀ k, k < bytes.length → decodeBytes (bytes.take k) = .more) → bytesAt .cs s.pc bytes s →
    quiet (segBytes .cs s.pc bytes.length s) s = true → s.halted = false → mapWf s.map = true → s.Settled →
    ∃ t, TrapEntered 6 s.pc s t ∧
      step s = .next (boundary { t with trace := t.trace ++ [phys s.segs.cs s.pc] }).2

/-- Nothing is fatal: a step never faults, and is refused exactly when MAP holds an ill-formed descriptor; otherwise there is
a next state, with the same MAP. The registration of a MAP takes exactly the well-formed lists, changes MAP alone, and refuses
the others by the same name (60_exceptions R344; 20_memory R52, R78; which functions of the model refuse: log 10). -/
def Obligations.StepRefusesOnlyIllFormedMap : Prop :=
  let wellFormed (map : List Region) : Prop :=
    ∀ d ∈ map, d.start.toNat ≤ d.last.toNat ∧ d.start &&& d.mirror = 0 ∧ d.last &&& d.mirror = 0
  (∀ s : State,
    (wellFormed s.map → ∃ t, step s = .next t ∧ t.map = s.map) ∧
    (¬ wellFormed s.map → step s = .refused .illFormedMap)) ∧
  ∀ (s : State) (map : List Region),
    (wellFormed map → setMap map s = .next { s with map := map }) ∧
    (¬ wellFormed map → setMap map s = .refused .illFormedMap)

/-- The invariant between steps, in every state and not only those a run reaches: FLAGS keeps its fixed bits (10_state R27),
memory its canonical form (log 2), and no prefix, window or reset request is left over (30_encoding R92; 60_exceptions R330;
70_reset_and_hazards R371). That a reset request made by the stack writes or vector reads of an acceptance is not left over
either is the model's choice (log 6): R371 and R380 name only `Ack()`. -/
def Obligations.StepKeepsInvariant : Prop :=
  ∀ s t : State, s.Inv → step s = .next t → t.Inv

/-- The state after reset meets the invariant, and every register, VECTOR, PENDING, HALTED, NOINT and both LINE bits have
their reset values (10_state R40). That its MAP is well
formed is a fact of the MAP the model chose (log 1), and that no reset request is pending one of log 6. -/
def Obligations.ResetMeetsInvariant : Prop :=
  State.reset.Inv ∧ mapWf State.reset.map = true ∧ State.reset.pc = 0 ∧ State.reset.segs.cs = 0xFFFF ∧
    phys State.reset.segs.cs State.reset.pc = 0xFFFF0 ∧ State.reset.flags = 0xF002 ∧
    (∀ r, State.reset.reg16 r = 0) ∧ (∀ j, j ≠ .cs → State.reset.sreg j = 0) ∧ State.reset.vector = 0 ∧
    State.reset.pending = 0 ∧ State.reset.halted = false ∧ State.reset.noint = false ∧ State.reset.lineInt = false ∧
    State.reset.lineNmi = false

/-- The debug hook: a step that fetches an instruction records one event, the physical address of its first byte with CS as it
was; a step while halted records none (60_exceptions R339). That a step which ends in a requested reset keeps the events
recorded so far is the model's choice (log 12). -/
def Obligations.StepRecordsHook : Prop :=
  ∀ s t : State, step s = .next t →
    t.trace = if s.halted = true then s.trace else s.trace ++ [phys s.segs.cs s.pc]

/-- While HALTED, nothing is fetched: the step is the InterruptCheck alone, then the reset that a handler asked for in the
acceptance (for calls other than `Ack()` the model's choice, log 6), and no hook event is recorded (that a reset keeps those
recorded before: log 12). With no NMI pending and
INT absent or masked the state does not change at all; a masked INT does not wake the core; a pending NMI does, and so does a
pending INT with IF set (60_exceptions R334; 10_state R34; 70_reset_and_hazards R371, R380). -/
def Obligations.HaltedCoreWaits : Prop :=
  ∀ s : State, mapWf s.map = true → s.halted = true →
    (let t := (interruptCheck s).2;
      step s = .next (if t.resetReq = true then applyReset t else t) ∧ t.trace = s.trace) ∧
    (s.Settled → pendingNmi s = false → (pendingInt s = false ∨ getFlag .IF s.flags = false) → step s = .next s) ∧
    (s.Settled → (pendingNmi s = true ∨ (pendingInt s = true ∧ getFlag .IF s.flags = true)) →
      (interruptCheck s).1 = true ∧ ∃ t, step s = .next t ∧ t.halted = false ∧ t.trace = s.trace)

/-! ## Memory and the Router -/

/-- Selection: the first descriptor in list order that matches the address; none when none matches (20_memory R53). -/
def Obligations.RouterSelectsFirstMatch : Prop :=
  ∀ (map : List Region) (a : Addr),
    (∀ d, select map a = some d ↔
      ∃ pre post, map = pre ++ d :: post ∧ matchesAddr d a ∧ ∀ e ∈ pre, ¬ matchesAddr e a) ∧
    (select map a = none ↔ ∀ d ∈ map, ¬ matchesAddr d a)

/-- The byte access by target: RAM is read and written at the folded offset, ROM read only, an unmapped byte or an absent
handler side reads 0xFF and drops writes, and a handler is called with the offset, and the byte (20_memory R54 to R57). -/
def Obligations.RouterByteAccess : Prop :=
  ∀ (s : State) (a : Addr) (v : Byte),
    (select s.map a = none → read8 a s = (0xFF, s) ∧ write8 a v s = s) ∧
    (∀ d, select s.map a = some d →
      let off := (a &&& ~~~d.mirror).toNat - d.start.toNat
      (∀ n, d.target = .ram n → read8 a s = (Memory.get s.mem (cellOf n off), s) ∧
        write8 a v s = { s with mem := Memory.set s.mem (cellOf n off) v }) ∧
      (∀ n, d.target = .rom n → read8 a s = (Memory.get s.mem (cellOf n off), s) ∧ write8 a v s = s) ∧
      (∀ dev w, d.target = .handler dev false w → read8 a s = (0xFF, s)) ∧
      (∀ dev r, d.target = .handler dev r false → write8 a v s = s) ∧
      (∀ dev w, d.target = .handler dev true w → read8 a s = callDevice (.read dev off) s ∧
        (read8 a s).2.devLog = s.devLog ++ [.read dev off]) ∧
      (∀ dev r, d.target = .handler dev r true → write8 a v s = (callDevice (.write dev off v) s).2 ∧
        (write8 a v s).devLog = s.devLog ++ [.write dev off v]))

/-- The laws of 20_memory R79: what is written to distinct RAM bytes is read back modulo the width; two addresses that fold
alike in the descriptor selected behave alike; an unmapped byte reads 0xFF and drops writes. -/
def Obligations.RouterLaws : Prop :=
  (∀ (s : State) (addr n v : Nat), Memory.wf s.mem = true →
    onRam ((List.range n).map fun k => BitVec.ofNat 20 (addr + k)) s = true →
    (memRead addr n (memWrite addr n v s)).1 = v % 2 ^ (8 * n)) ∧
  (∀ (s : State) (a a' : Addr) (d : Region) (v : Byte), select s.map a = some d → select s.map a' = some d →
    a &&& ~~~d.mirror = a' &&& ~~~d.mirror → read8 a' s = read8 a s ∧ write8 a' v s = write8 a v s) ∧
  (∀ (s : State) (a : Addr) (v : Byte), select s.map a = none → read8 a s = (0xFF, s) ∧ write8 a v s = s)

/-- Segmented accesses: the physical address is 16 times the segment plus the offset modulo 2^20; a word is two bytes, low byte
first, whose second offset wraps inside the segment; what is stored to RAM is read back (20_memory R60, R62 to R64). -/
def Obligations.SegmentedAccess : Prop :=
  ∀ (s : State) (j : SReg) (off v : Word),
    (phys (s.sreg j) off).toNat = ((s.sreg j).toNat * 16 + off.toNat) % 2 ^ 20 ∧
    (quiet (segBytes j off 2 s) s = true → segRead16 j off s = (peekWord j off s, s)) ∧
    (peekWord j off s).toNat = (peekByte j off s).toNat +
      256 * (peekByte j (BitVec.ofNat 16 ((off.toNat + 1) % 65536)) s).toNat ∧
    (Memory.wf s.mem = true → onRam (segBytes j off 2 s) s = true →
      peekWord j off (segWrite16 j off v s) = v ∧
      (peekByte j off (segWrite16 j off v s)).toNat = v.toNat % 256 ∧
      (peekByte j (off + 1) (segWrite16 j off v s)).toNat = v.toNat / 256)

/-- A device operand is accessed as often as its instruction says and no more: ADD to memory reads the byte once and then
writes it once, CMP reads it once, MOV to memory writes it once without reading (20_memory R68, R70). -/
def Obligations.DeviceAccessedOnce : Prop :=
  ∀ (s t : State) (m : MemRef) (reg : Reg8) (d : Region) (dev : Nat),
    select s.map (phys (s.sreg (eaSeg m s)) (eaOff m s)) = some d → d.target = .handler dev true true →
    let off := (phys (s.sreg (eaSeg m s)) (eaOff m s) &&& ~~~d.mirror).toNat - d.start.toNat
    (exec (.addEbGb (.mem m) reg) s = .next t →
      ∃ v, t.devLog = s.devLog ++ [.read dev off, .write dev off v] ∧
        v = (callDevice (.read dev off) s).1 + s.reg8 reg) ∧
    (exec (.cmpEbGb (.mem m) reg) s = .next t → t.devLog = s.devLog ++ [.read dev off]) ∧
    (exec (.movEbGb (.mem m) reg) s = .next t → t.devLog = s.devLog ++ [.write dev off (s.reg8 reg)])

/-! ## Interrupts, reset, the host's entry points -/

/-- `set_irq_line`: LINE takes the state; with Level PENDING follows it, with Edge a 0-to-1 transition sets it and nothing else
changes it; any non-zero state counts as 1, a line other than 0 and 1 is ignored; the default policies are Level for INT and
Edge for NMI (60_exceptions R325). A handler call or `Ack()`: the byte returned is the answer's, its `set_irq_line` calls are
applied in order to LINE and PENDING at once, a reset it asks for is latched, and nothing else of the core or the memory
changes (20_memory R57; 60_exceptions R325, R327; 70_reset_and_hazards R371). That an answer is the script's first, or, with
the script used up, the free value of the calls so far, is the model's form of the environment (log 5). -/
def Obligations.IrqLatching : Prop :=
  ∀ (s : State) (level : Nat),
    let up := decide (level ≠ 0)
    (let t := setIrqLine 0 level s;
      t.lineInt = up ∧ pendingNmi t = pendingNmi s ∧ t = { s with lineInt := up, pending := t.pending } ∧
      (s.latchInt = .level → pendingInt t = up) ∧
      (s.latchInt = .edge → pendingInt t = (pendingInt s || (up && !s.lineInt)))) ∧
    (let t := setIrqLine 1 level s;
      t.lineNmi = up ∧ pendingInt t = pendingInt s ∧ t = { s with lineNmi := up, pending := t.pending } ∧
      (s.latchNmi = .level → pendingNmi t = up) ∧
      (s.latchNmi = .edge → pendingNmi t = (pendingNmi s || (up && !s.lineNmi)))) ∧
    (∀ line, 2 ≤ line → setIrqLine line level s = s) ∧
    State.reset.latchInt = .level ∧ State.reset.latchNmi = .edge ∧
    ∀ (e : DevEvent) (a : DevAnswer),
      (s.devScript.head? = some a ∨ (s.devScript = [] ∧ Config.device (s.devLog ++ [e]) = a)) →
      let u := a.irqs.foldl (fun t c => setIrqLine c.line c.level t) s
      callDevice e s = (a.value, { s with
        lineInt := u.lineInt
        lineNmi := u.lineNmi
        pending := u.pending
        resetReq := s.resetReq || a.reset
        devScript := s.devScript.tail
        devLog := s.devLog ++ [e] })

/-- `InterruptCheck`: the window delivers nothing and closes; else NMI through vector 2; else INT, if IF is 1, through the
vector `Ack()` answers; else nothing. An acceptance writes VECTOR, ends a halt, clears its pending bit unless the line is
level-latched and still 1, and traps with the boundary pc (60_exceptions R328, R320, R321). -/
def Obligations.InterruptCheckCases : Prop :=
  ∀ s : State,
    (s.noint = true → interruptCheck s = (false, { s with noint := false })) ∧
    (s.noint = false → s.pending.getLsbD 1 = true → ∃ u t, interruptCheck s = (true, t) ∧ TrapEntered 2 s.pc u t ∧
      u = { s with vector := 2, halted := false, pending := u.pending } ∧
      u.pending = if s.latchNmi = .edge ∨ s.lineNmi = false then s.pending &&& 1 else s.pending) ∧
    (s.noint = false → s.pending.getLsbD 1 = false → s.pending.getLsbD 0 = true → getFlag .IF s.flags = true →
      ∃ u t, interruptCheck s = (true, t) ∧ TrapEntered (callDevice .ack s).1 s.pc u t ∧
        u = { (callDevice .ack s).2 with vector := (callDevice .ack s).1, halted := false, pending := u.pending } ∧
        u.pending = if s.latchInt = .edge ∨ (callDevice .ack s).2.lineInt = false then (callDevice .ack s).2.pending &&& 2
          else (callDevice .ack s).2.pending) ∧
    (s.noint = false → s.pending.getLsbD 1 = false → (s.pending.getLsbD 0 = false ∨ getFlag .IF s.flags = false) →
      interruptCheck s = (false, s))

/-- Reset: every piece of core state gets its reset value whatever it held, and memory, MAP and LATCH stay. That the log of
handler calls and the script of the answers to come stay too is the model's choice (logs 12 and 5: both are the model's own
fields). A reset that a handler asked for takes the place of the InterruptCheck at the end of the instruction, and one asked
for during an acceptance comes after it (for calls other than `Ack()` the model's choice, log 6); without a request there is the InterruptCheck alone (70_reset_and_hazards R370
to R372, R380). -/
def Obligations.ResetOperation : Prop :=
  ∀ s : State,
    (∀ r, (applyReset s).reg16 r = 0) ∧ (applyReset s).pc = 0 ∧
    (applyReset s).segs = { es := 0, cs := 0xFFFF, ss := 0, ds := 0 } ∧ (applyReset s).flags = 0xF002 ∧
    (applyReset s).vector = 0 ∧ (applyReset s).pending = 0 ∧ (applyReset s).halted = false ∧
    (applyReset s).noint = false ∧ (applyReset s).lineInt = false ∧ (applyReset s).lineNmi = false ∧
    (applyReset s).mem = s.mem ∧ SamePlatform s (applyReset s) ∧ (applyReset s).devLog = s.devLog ∧
    (applyReset s).devScript = s.devScript ∧ hostReset s = applyReset s ∧
    (s.resetReq = true → boundary s = (false, applyReset s)) ∧
    (s.resetReq = false → (interruptCheck s).2.resetReq = true →
      boundary s = ((interruptCheck s).1, applyReset (interruptCheck s).2)) ∧
    (s.resetReq = false → (interruptCheck s).2.resetReq = false → boundary s = interruptCheck s)

/-- Registers by index: 0 is pc, 1 to 8 are AX, CX, DX, BX, SP, BP, SI and DI, 9 FLAGS, 10 to 13 ES, CS, SS and DS, 14 VECTOR and
15 PENDING; a read after a write of the same index gives the value cut to the register's width, for FLAGS with its fixed bits
forced; every other index reads as before, and a write changes nothing but the indexed registers; an index above 15 reads 0
and drops writes (10_state R39, R27). -/
def Obligations.RegistersByIndex : Prop :=
  ∀ (s : State) (i j v : Nat),
    (i ≤ 15 → i ≠ 9 → i ≠ 14 → i ≠ 15 → readRegister i (writeRegister i v s) = v % 65536) ∧
    (readRegister 9 (writeRegister 9 v s) = ((v % 65536) &&& 0x0FD5) ||| 0xF002) ∧
    (readRegister 14 (writeRegister 14 v s) = v % 256) ∧ (readRegister 15 (writeRegister 15 v s) = v % 4) ∧
    (j ≠ i → readRegister j (writeRegister i v s) = readRegister j s) ∧
    (15 < i → readRegister i s = 0 ∧ writeRegister i v s = s) ∧
    ({ writeRegister i v s with
        regs := s.regs, segs := s.segs, pc := s.pc, flags := s.flags, vector := s.vector, pending := s.pending } = s) ∧
    (readRegister 0 s = s.pc.toNat ∧ readRegister 1 s = s.regs.ax.toNat ∧ readRegister 2 s = s.regs.cx.toNat ∧
      readRegister 3 s = s.regs.dx.toNat ∧ readRegister 4 s = s.regs.bx.toNat ∧ readRegister 5 s = s.regs.sp.toNat ∧
      readRegister 6 s = s.regs.bp.toNat ∧ readRegister 7 s = s.regs.si.toNat ∧ readRegister 8 s = s.regs.di.toNat ∧
      readRegister 9 s = s.flags.toNat ∧ readRegister 10 s = s.segs.es.toNat ∧ readRegister 11 s = s.segs.cs.toNat ∧
      readRegister 12 s = s.segs.ss.toNat ∧ readRegister 13 s = s.segs.ds.toNat ∧ readRegister 14 s = s.vector.toNat ∧
      readRegister 15 s = s.pending.toNat)

/-- `execute`: a count of zero or less does nothing and returns 0. Otherwise, with positive costs, the state is the one after
some number `n` of steps and the count the sum of their costs: each step but the last begins with less than `cycles`
consumed and is no idle one; the loop ends when at least `cycles` are consumed, or with a step of a halted core that nothing
wakes, which consumes the rest. At unit costs at most one more than `cycles` is consumed. A halted core that nothing wakes
burns the slice with no change (70_reset_and_hazards R380, R384; the costs are an argument, log 11). -/
def Obligations.ExecuteConsumesCycles : Prop :=
  ∀ (s : State) (cycles : Int),
    (∀ c, cycles ≤ 0 → execute c cycles s = .next (0, s)) ∧
    (∀ c : Costs, 0 < cycles → mapWf s.map = true → (∀ d, 0 < c.instr d) → 0 < c.accept →
      ∃ n, (∀ k, k < n → step (afterSteps k s) = .next (afterSteps (k + 1) s) ∧ (consumedBy c k s : Int) < cycles ∧
          0 < costOf c (afterSteps k s)) ∧
        (cycles ≤ consumedBy c n s ∧ execute c cycles s = .next (consumedBy c n s, afterSteps n s) ∨
          (consumedBy c n s : Int) < cycles ∧ costOf c (afterSteps n s) = 0 ∧
            step (afterSteps n s) = .next (afterSteps (n + 1) s) ∧
            execute c cycles s = .next (cycles.toNat, afterSteps (n + 1) s))) ∧
    (0 < cycles → mapWf s.map = true →
      ∃ (k : Nat) (t : State), execute unitCosts cycles s = .next (k, t) ∧ cycles ≤ k ∧ k ≤ cycles + 1) ∧
    (∀ c, 0 < cycles → mapWf s.map = true → s.halted = true → s.Settled → pendingNmi s = false →
      (pendingInt s = false ∨ getFlag .IF s.flags = false) → execute c cycles s = .next (cycles.toNat, s))
end

