-- ==== Sys2Proof/Laws/Memory.lean ====
section
/-! SUPPORT. The laws of memory: a read after a write, and the canonical form kept by every operation. -/

namespace Sys2Proof.Laws

open Sys2Proof Sys2Proof.Machine

theorem wfAbove_mono {j k : Nat} (h : j ≤ k) : ∀ m : Memory, Memory.wfAbove k m = true → Memory.wfAbove j m = true
  | [], _ => rfl
  | (i, b) :: rest, hw => by
    simp only [Memory.wfAbove, Bool.and_eq_true, decide_eq_true_eq] at hw ⊢
    exact ⟨⟨by omega, hw.1.2⟩, hw.2⟩

theorem wf_of_wfAbove {k : Nat} : ∀ m : Memory, Memory.wfAbove k m = true → Memory.wf m = true
  | [], _ => rfl
  | (i, b) :: rest, hw => by
    simp only [Memory.wfAbove, Memory.wf, Bool.and_eq_true] at hw ⊢
    exact ⟨hw.1.2, hw.2⟩

theorem get_of_wfAbove {k j : Nat} (h : j ≤ k) :
    ∀ m : Memory, Memory.wfAbove k m = true → Memory.get m j = Config.unlistedCell
  | [], _ => rfl
  | (i, b) :: rest, hw => by
    simp only [Memory.wfAbove, Bool.and_eq_true, decide_eq_true_eq] at hw
    have : i ≠ j := by omega
    simp only [Memory.get, this, ↓reduceIte]
    exact get_of_wfAbove (by omega : j ≤ i) rest hw.2

theorem insert_wfAbove {i k : Nat} {v : Byte} (hv : v ≠ Config.unlistedCell) (hik : i < k) :
    ∀ m : Memory, Memory.wfAbove i m = true → Memory.wfAbove i (Memory.insert m k v) = true
  | [], _ => by simp [Memory.insert, Memory.wfAbove, hv, hik]
  | (j, b) :: rest, hw => by
    have hw' := hw
    simp only [Memory.wfAbove, Bool.and_eq_true, decide_eq_true_eq] at hw
    unfold Memory.insert
    split
    · rename_i hkj
      simp [Memory.wfAbove, hv, hik, hkj, hw.2, hw.1.2]
    · split
      · rename_i _ hkj
        subst hkj
        simp [Memory.wfAbove, hv, hik, hw.2]
      · have hjk : j < k := by omega
        simp only [Memory.wfAbove, Bool.and_eq_true, decide_eq_true_eq]
        exact ⟨hw.1, insert_wfAbove hv hjk rest hw.2⟩

theorem erase_wfAbove {i k : Nat} :
    ∀ m : Memory, Memory.wfAbove i m = true → Memory.wfAbove i (Memory.erase m k) = true
  | [], _ => rfl
  | (j, b) :: rest, hw => by
    simp only [Memory.wfAbove, Bool.and_eq_true, decide_eq_true_eq] at hw
    unfold Memory.erase
    split
    · exact wfAbove_mono (by omega : i ≤ j) rest hw.2
    · simp only [Memory.wfAbove, Bool.and_eq_true, decide_eq_true_eq]
      exact ⟨hw.1, erase_wfAbove rest hw.2⟩

/-- Setting a cell keeps the canonical form. -/
theorem set_wf {m : Memory} (k : Nat) (v : Byte) (h : Memory.wf m = true) : Memory.wf (Memory.set m k v) = true := by
  unfold Memory.set
  split
  · cases m with
    | nil => rfl
    | cons c rest =>
      obtain ⟨j, b⟩ := c
      simp only [Memory.wf, Bool.and_eq_true] at h
      unfold Memory.erase
      split
      · exact wf_of_wfAbove rest h.2
      · simp only [Memory.wf, Bool.and_eq_true]
        exact ⟨h.1, erase_wfAbove rest h.2⟩
  · rename_i hv
    cases m with
    | nil => simp [Memory.insert, Memory.wf, Memory.wfAbove, hv]
    | cons c rest =>
      obtain ⟨j, b⟩ := c
      simp only [Memory.wf, Bool.and_eq_true] at h
      unfold Memory.insert
      split
      · rename_i hkj
        have hb := h.1
        simp_all [Memory.wf, Memory.wfAbove]
      · split
        · simp_all [Memory.wf]
        · have hjk : j < k := by omega
          simp only [Memory.wf, Bool.and_eq_true]
          exact ⟨h.1, insert_wfAbove hv hjk rest h.2⟩

theorem get_insert (k j : Nat) (v : Byte) : ∀ m : Memory,
    Memory.get (Memory.insert m k v) j = if j = k then v else Memory.get m j
  | [] => by
    by_cases h : j = k
    · simp [Memory.insert, Memory.get, h]
    · simp [Memory.insert, Memory.get, h, Ne.symm h]
  | (i, b) :: rest => by
    have ih := get_insert k j v rest
    unfold Memory.insert
    split
    · by_cases h : j = k
      · simp [Memory.get, h]
      · simp [Memory.get, h, Ne.symm h]
    · split
      · rename_i _ hki
        subst hki
        by_cases h : j = k
        · simp [Memory.get, h]
        · simp [Memory.get, h, Ne.symm h]
      · rename_i h1 h2
        by_cases hij : i = j
        · have : j ≠ k := by omega
          simp [Memory.get, hij, this]
        · simp [Memory.get, hij, ih]

theorem get_erase_above (k j i : Nat) : ∀ m : Memory, Memory.wfAbove i m = true →
    Memory.get (Memory.erase m k) j = if j = k then Config.unlistedCell else Memory.get m j
  | [], _ => by simp [Memory.erase, Memory.get]
  | (l, b) :: rest, hw => by
    simp only [Memory.wfAbove, Bool.and_eq_true, decide_eq_true_eq] at hw
    have ih := get_erase_above k j l rest hw.2
    unfold Memory.erase
    split
    · rename_i hlk
      subst hlk
      by_cases h : j = l
      · subst h
        simp [get_of_wfAbove (Nat.le_refl j) rest hw.2]
      · simp [Memory.get, h, Ne.symm h]
    · rename_i hlk
      by_cases hlj : l = j
      · have : j ≠ k := by omega
        simp [Memory.get, hlj, this]
      · simp [Memory.get, hlj, ih]

/-- A cell read after a cell write (20_memory R56, R73). -/
theorem get_set {m : Memory} (h : Memory.wf m = true) (k j : Nat) (v : Byte) :
    Memory.get (Memory.set m k v) j = if j = k then v else Memory.get m j := by
  unfold Memory.set
  split
  · rename_i hv
    subst hv
    cases m with
    | nil => simp [Memory.erase, Memory.get]
    | cons c rest =>
      obtain ⟨l, b⟩ := c
      simp only [Memory.wf, Bool.and_eq_true] at h
      unfold Memory.erase
      split
      · rename_i hlk
        subst hlk
        by_cases hj : j = l
        · subst hj
          simp [get_of_wfAbove (Nat.le_refl j) rest h.2]
        · simp [Memory.get, hj, Ne.symm hj]
      · rename_i hlk
        by_cases hlj : l = j
        · have : j ≠ k := by omega
          simp [Memory.get, hlj, this]
        · simp [Memory.get, hlj, get_erase_above k j l rest h.2]
  · exact get_insert k j v m

/-- A cell other than the one written keeps its byte, in any memory. -/
theorem get_set_ne {m : Memory} {k j : Nat} (hjk : j ≠ k) (v : Byte) :
    Memory.get (Memory.set m k v) j = Memory.get m j := by
  have he : ∀ m : Memory, Memory.get (Memory.erase m k) j = Memory.get m j := by
    intro m
    induction m with
    | nil => rfl
    | cons c rest ih =>
      obtain ⟨l, b⟩ := c
      unfold Memory.erase
      split
      · rename_i hlk
        have : l ≠ j := by omega
        simp [Memory.get, this]
      · simp only [Memory.get, ih]
  unfold Memory.set
  split
  · exact he m
  · simp [get_insert, hjk]

/-- The memory of State.reset is in canonical form. -/
theorem reset_mem_wf : Memory.wf State.reset.mem = true := rfl

end Sys2Proof.Laws
end

