-- ==== Sys2Proof/Laws/State.lean ====
section
/-! SUPPORT. One lemma per field per state update, and the register file read after each update. -/

namespace Sys2Proof.Laws

open Sys2Proof Sys2Proof.Machine

/-! ### `setReg16` -/

@[simp] theorem setReg16_segs (r : Reg16) (v : Word) (s : State) : (setReg16 r v s).segs = s.segs := by cases r <;> rfl
@[simp] theorem setReg16_pc (r : Reg16) (v : Word) (s : State) : (setReg16 r v s).pc = s.pc := by cases r <;> rfl
@[simp] theorem setReg16_flags (r : Reg16) (v : Word) (s : State) : (setReg16 r v s).flags = s.flags := by cases r <;> rfl
@[simp] theorem setReg16_vector (r : Reg16) (v : Word) (s : State) : (setReg16 r v s).vector = s.vector := by cases r <;> rfl
@[simp] theorem setReg16_pending (r : Reg16) (v : Word) (s : State) : (setReg16 r v s).pending = s.pending := by cases r <;> rfl
@[simp] theorem setReg16_halted (r : Reg16) (v : Word) (s : State) : (setReg16 r v s).halted = s.halted := by cases r <;> rfl
@[simp] theorem setReg16_noint (r : Reg16) (v : Word) (s : State) : (setReg16 r v s).noint = s.noint := by cases r <;> rfl
@[simp] theorem setReg16_lineInt (r : Reg16) (v : Word) (s : State) : (setReg16 r v s).lineInt = s.lineInt := by cases r <;> rfl
@[simp] theorem setReg16_lineNmi (r : Reg16) (v : Word) (s : State) : (setReg16 r v s).lineNmi = s.lineNmi := by cases r <;> rfl
@[simp] theorem setReg16_resetReq (r : Reg16) (v : Word) (s : State) : (setReg16 r v s).resetReq = s.resetReq := by cases r <;> rfl
@[simp] theorem setReg16_segov (r : Reg16) (v : Word) (s : State) : (setReg16 r v s).segov = s.segov := by cases r <;> rfl
@[simp] theorem setReg16_rep (r : Reg16) (v : Word) (s : State) : (setReg16 r v s).rep = s.rep := by cases r <;> rfl
@[simp] theorem setReg16_map (r : Reg16) (v : Word) (s : State) : (setReg16 r v s).map = s.map := by cases r <;> rfl
@[simp] theorem setReg16_latchInt (r : Reg16) (v : Word) (s : State) : (setReg16 r v s).latchInt = s.latchInt := by cases r <;> rfl
@[simp] theorem setReg16_latchNmi (r : Reg16) (v : Word) (s : State) : (setReg16 r v s).latchNmi = s.latchNmi := by cases r <;> rfl
@[simp] theorem setReg16_mem (r : Reg16) (v : Word) (s : State) : (setReg16 r v s).mem = s.mem := by cases r <;> rfl
@[simp] theorem setReg16_devScript (r : Reg16) (v : Word) (s : State) : (setReg16 r v s).devScript = s.devScript := by cases r <;> rfl
@[simp] theorem setReg16_devLog (r : Reg16) (v : Word) (s : State) : (setReg16 r v s).devLog = s.devLog := by cases r <;> rfl
@[simp] theorem setReg16_trace (r : Reg16) (v : Word) (s : State) : (setReg16 r v s).trace = s.trace := by cases r <;> rfl
@[simp] theorem setReg16_sreg (r : Reg16) (v : Word) (j' : SReg) (s : State) : (setReg16 r v s).sreg j' = s.sreg j' := by
  cases j' <;> simp [State.sreg]

/-! ### `setReg8` -/

@[simp] theorem setReg8_segs (r : Reg8) (v : Byte) (s : State) : (setReg8 r v s).segs = s.segs := by cases r <;> rfl
@[simp] theorem setReg8_pc (r : Reg8) (v : Byte) (s : State) : (setReg8 r v s).pc = s.pc := by cases r <;> rfl
@[simp] theorem setReg8_flags (r : Reg8) (v : Byte) (s : State) : (setReg8 r v s).flags = s.flags := by cases r <;> rfl
@[simp] theorem setReg8_vector (r : Reg8) (v : Byte) (s : State) : (setReg8 r v s).vector = s.vector := by cases r <;> rfl
@[simp] theorem setReg8_pending (r : Reg8) (v : Byte) (s : State) : (setReg8 r v s).pending = s.pending := by cases r <;> rfl
@[simp] theorem setReg8_halted (r : Reg8) (v : Byte) (s : State) : (setReg8 r v s).halted = s.halted := by cases r <;> rfl
@[simp] theorem setReg8_noint (r : Reg8) (v : Byte) (s : State) : (setReg8 r v s).noint = s.noint := by cases r <;> rfl
@[simp] theorem setReg8_lineInt (r : Reg8) (v : Byte) (s : State) : (setReg8 r v s).lineInt = s.lineInt := by cases r <;> rfl
@[simp] theorem setReg8_lineNmi (r : Reg8) (v : Byte) (s : State) : (setReg8 r v s).lineNmi = s.lineNmi := by cases r <;> rfl
@[simp] theorem setReg8_resetReq (r : Reg8) (v : Byte) (s : State) : (setReg8 r v s).resetReq = s.resetReq := by cases r <;> rfl
@[simp] theorem setReg8_segov (r : Reg8) (v : Byte) (s : State) : (setReg8 r v s).segov = s.segov := by cases r <;> rfl
@[simp] theorem setReg8_rep (r : Reg8) (v : Byte) (s : State) : (setReg8 r v s).rep = s.rep := by cases r <;> rfl
@[simp] theorem setReg8_map (r : Reg8) (v : Byte) (s : State) : (setReg8 r v s).map = s.map := by cases r <;> rfl
@[simp] theorem setReg8_latchInt (r : Reg8) (v : Byte) (s : State) : (setReg8 r v s).latchInt = s.latchInt := by cases r <;> rfl
@[simp] theorem setReg8_latchNmi (r : Reg8) (v : Byte) (s : State) : (setReg8 r v s).latchNmi = s.latchNmi := by cases r <;> rfl
@[simp] theorem setReg8_mem (r : Reg8) (v : Byte) (s : State) : (setReg8 r v s).mem = s.mem := by cases r <;> rfl
@[simp] theorem setReg8_devScript (r : Reg8) (v : Byte) (s : State) : (setReg8 r v s).devScript = s.devScript := by cases r <;> rfl
@[simp] theorem setReg8_devLog (r : Reg8) (v : Byte) (s : State) : (setReg8 r v s).devLog = s.devLog := by cases r <;> rfl
@[simp] theorem setReg8_trace (r : Reg8) (v : Byte) (s : State) : (setReg8 r v s).trace = s.trace := by cases r <;> rfl
@[simp] theorem setReg8_sreg (r : Reg8) (v : Byte) (j' : SReg) (s : State) : (setReg8 r v s).sreg j' = s.sreg j' := by
  cases j' <;> simp [State.sreg]

/-! ### `setSreg` -/

@[simp] theorem setSreg_regs (j : SReg) (v : Word) (s : State) : (setSreg j v s).regs = s.regs := by cases j <;> rfl
@[simp] theorem setSreg_pc (j : SReg) (v : Word) (s : State) : (setSreg j v s).pc = s.pc := by cases j <;> rfl
@[simp] theorem setSreg_flags (j : SReg) (v : Word) (s : State) : (setSreg j v s).flags = s.flags := by cases j <;> rfl
@[simp] theorem setSreg_vector (j : SReg) (v : Word) (s : State) : (setSreg j v s).vector = s.vector := by cases j <;> rfl
@[simp] theorem setSreg_pending (j : SReg) (v : Word) (s : State) : (setSreg j v s).pending = s.pending := by cases j <;> rfl
@[simp] theorem setSreg_halted (j : SReg) (v : Word) (s : State) : (setSreg j v s).halted = s.halted := by cases j <;> rfl
@[simp] theorem setSreg_noint (j : SReg) (v : Word) (s : State) : (setSreg j v s).noint = s.noint := by cases j <;> rfl
@[simp] theorem setSreg_lineInt (j : SReg) (v : Word) (s : State) : (setSreg j v s).lineInt = s.lineInt := by cases j <;> rfl
@[simp] theorem setSreg_lineNmi (j : SReg) (v : Word) (s : State) : (setSreg j v s).lineNmi = s.lineNmi := by cases j <;> rfl
@[simp] theorem setSreg_resetReq (j : SReg) (v : Word) (s : State) : (setSreg j v s).resetReq = s.resetReq := by cases j <;> rfl
@[simp] theorem setSreg_segov (j : SReg) (v : Word) (s : State) : (setSreg j v s).segov = s.segov := by cases j <;> rfl
@[simp] theorem setSreg_rep (j : SReg) (v : Word) (s : State) : (setSreg j v s).rep = s.rep := by cases j <;> rfl
@[simp] theorem setSreg_map (j : SReg) (v : Word) (s : State) : (setSreg j v s).map = s.map := by cases j <;> rfl
@[simp] theorem setSreg_latchInt (j : SReg) (v : Word) (s : State) : (setSreg j v s).latchInt = s.latchInt := by cases j <;> rfl
@[simp] theorem setSreg_latchNmi (j : SReg) (v : Word) (s : State) : (setSreg j v s).latchNmi = s.latchNmi := by cases j <;> rfl
@[simp] theorem setSreg_mem (j : SReg) (v : Word) (s : State) : (setSreg j v s).mem = s.mem := by cases j <;> rfl
@[simp] theorem setSreg_devScript (j : SReg) (v : Word) (s : State) : (setSreg j v s).devScript = s.devScript := by cases j <;> rfl
@[simp] theorem setSreg_devLog (j : SReg) (v : Word) (s : State) : (setSreg j v s).devLog = s.devLog := by cases j <;> rfl
@[simp] theorem setSreg_trace (j : SReg) (v : Word) (s : State) : (setSreg j v s).trace = s.trace := by cases j <;> rfl
@[simp] theorem setSreg_reg16 (j : SReg) (v : Word) (r' : Reg16) (s : State) : (setSreg j v s).reg16 r' = s.reg16 r' := by
  cases r' <;> simp [State.reg16]
@[simp] theorem setSreg_reg8 (j : SReg) (v : Word) (r' : Reg8) (s : State) : (setSreg j v s).reg8 r' = s.reg8 r' := by
  simp [State.reg8]

/-! ### `setFlags` -/

@[simp] theorem setFlags_regs (f : Word) (s : State) : (setFlags f s).regs = s.regs := rfl
@[simp] theorem setFlags_segs (f : Word) (s : State) : (setFlags f s).segs = s.segs := rfl
@[simp] theorem setFlags_pc (f : Word) (s : State) : (setFlags f s).pc = s.pc := rfl
@[simp] theorem setFlags_vector (f : Word) (s : State) : (setFlags f s).vector = s.vector := rfl
@[simp] theorem setFlags_pending (f : Word) (s : State) : (setFlags f s).pending = s.pending := rfl
@[simp] theorem setFlags_halted (f : Word) (s : State) : (setFlags f s).halted = s.halted := rfl
@[simp] theorem setFlags_noint (f : Word) (s : State) : (setFlags f s).noint = s.noint := rfl
@[simp] theorem setFlags_lineInt (f : Word) (s : State) : (setFlags f s).lineInt = s.lineInt := rfl
@[simp] theorem setFlags_lineNmi (f : Word) (s : State) : (setFlags f s).lineNmi = s.lineNmi := rfl
@[simp] theorem setFlags_resetReq (f : Word) (s : State) : (setFlags f s).resetReq = s.resetReq := rfl
@[simp] theorem setFlags_segov (f : Word) (s : State) : (setFlags f s).segov = s.segov := rfl
@[simp] theorem setFlags_rep (f : Word) (s : State) : (setFlags f s).rep = s.rep := rfl
@[simp] theorem setFlags_map (f : Word) (s : State) : (setFlags f s).map = s.map := rfl
@[simp] theorem setFlags_latchInt (f : Word) (s : State) : (setFlags f s).latchInt = s.latchInt := rfl
@[simp] theorem setFlags_latchNmi (f : Word) (s : State) : (setFlags f s).latchNmi = s.latchNmi := rfl
@[simp] theorem setFlags_mem (f : Word) (s : State) : (setFlags f s).mem = s.mem := rfl
@[simp] theorem setFlags_devScript (f : Word) (s : State) : (setFlags f s).devScript = s.devScript := rfl
@[simp] theorem setFlags_devLog (f : Word) (s : State) : (setFlags f s).devLog = s.devLog := rfl
@[simp] theorem setFlags_trace (f : Word) (s : State) : (setFlags f s).trace = s.trace := rfl
@[simp] theorem setFlags_reg16 (f : Word) (r' : Reg16) (s : State) : (setFlags f s).reg16 r' = s.reg16 r' := by
  cases r' <;> simp [State.reg16]
@[simp] theorem setFlags_reg8 (f : Word) (r' : Reg8) (s : State) : (setFlags f s).reg8 r' = s.reg8 r' := by
  simp [State.reg8]
@[simp] theorem setFlags_sreg (f : Word) (j' : SReg) (s : State) : (setFlags f s).sreg j' = s.sreg j' := by
  cases j' <;> simp [State.sreg]

/-! ### `setFlag` -/

@[simp] theorem setFlag_regs (x : Flag) (b : Bool) (s : State) : (setFlag x b s).regs = s.regs := rfl
@[simp] theorem setFlag_segs (x : Flag) (b : Bool) (s : State) : (setFlag x b s).segs = s.segs := rfl
@[simp] theorem setFlag_pc (x : Flag) (b : Bool) (s : State) : (setFlag x b s).pc = s.pc := rfl
@[simp] theorem setFlag_vector (x : Flag) (b : Bool) (s : State) : (setFlag x b s).vector = s.vector := rfl
@[simp] theorem setFlag_pending (x : Flag) (b : Bool) (s : State) : (setFlag x b s).pending = s.pending := rfl
@[simp] theorem setFlag_halted (x : Flag) (b : Bool) (s : State) : (setFlag x b s).halted = s.halted := rfl
@[simp] theorem setFlag_noint (x : Flag) (b : Bool) (s : State) : (setFlag x b s).noint = s.noint := rfl
@[simp] theorem setFlag_lineInt (x : Flag) (b : Bool) (s : State) : (setFlag x b s).lineInt = s.lineInt := rfl
@[simp] theorem setFlag_lineNmi (x : Flag) (b : Bool) (s : State) : (setFlag x b s).lineNmi = s.lineNmi := rfl
@[simp] theorem setFlag_resetReq (x : Flag) (b : Bool) (s : State) : (setFlag x b s).resetReq = s.resetReq := rfl
@[simp] theorem setFlag_segov (x : Flag) (b : Bool) (s : State) : (setFlag x b s).segov = s.segov := rfl
@[simp] theorem setFlag_rep (x : Flag) (b : Bool) (s : State) : (setFlag x b s).rep = s.rep := rfl
@[simp] theorem setFlag_map (x : Flag) (b : Bool) (s : State) : (setFlag x b s).map = s.map := rfl
@[simp] theorem setFlag_latchInt (x : Flag) (b : Bool) (s : State) : (setFlag x b s).latchInt = s.latchInt := rfl
@[simp] theorem setFlag_latchNmi (x : Flag) (b : Bool) (s : State) : (setFlag x b s).latchNmi = s.latchNmi := rfl
@[simp] theorem setFlag_mem (x : Flag) (b : Bool) (s : State) : (setFlag x b s).mem = s.mem := rfl
@[simp] theorem setFlag_devScript (x : Flag) (b : Bool) (s : State) : (setFlag x b s).devScript = s.devScript := rfl
@[simp] theorem setFlag_devLog (x : Flag) (b : Bool) (s : State) : (setFlag x b s).devLog = s.devLog := rfl
@[simp] theorem setFlag_trace (x : Flag) (b : Bool) (s : State) : (setFlag x b s).trace = s.trace := rfl
@[simp] theorem setFlag_reg16 (x : Flag) (b : Bool) (r' : Reg16) (s : State) : (setFlag x b s).reg16 r' = s.reg16 r' := by
  cases r' <;> simp [State.reg16]
@[simp] theorem setFlag_reg8 (x : Flag) (b : Bool) (r' : Reg8) (s : State) : (setFlag x b s).reg8 r' = s.reg8 r' := by
  simp [State.reg8]
@[simp] theorem setFlag_sreg (x : Flag) (b : Bool) (j' : SReg) (s : State) : (setFlag x b s).sreg j' = s.sreg j' := by
  cases j' <;> simp [State.sreg]

/-! ### `setPc` -/

@[simp] theorem setPc_regs (v : Word) (s : State) : (setPc v s).regs = s.regs := rfl
@[simp] theorem setPc_segs (v : Word) (s : State) : (setPc v s).segs = s.segs := rfl
@[simp] theorem setPc_flags (v : Word) (s : State) : (setPc v s).flags = s.flags := rfl
@[simp] theorem setPc_vector (v : Word) (s : State) : (setPc v s).vector = s.vector := rfl
@[simp] theorem setPc_pending (v : Word) (s : State) : (setPc v s).pending = s.pending := rfl
@[simp] theorem setPc_halted (v : Word) (s : State) : (setPc v s).halted = s.halted := rfl
@[simp] theorem setPc_noint (v : Word) (s : State) : (setPc v s).noint = s.noint := rfl
@[simp] theorem setPc_lineInt (v : Word) (s : State) : (setPc v s).lineInt = s.lineInt := rfl
@[simp] theorem setPc_lineNmi (v : Word) (s : State) : (setPc v s).lineNmi = s.lineNmi := rfl
@[simp] theorem setPc_resetReq (v : Word) (s : State) : (setPc v s).resetReq = s.resetReq := rfl
@[simp] theorem setPc_segov (v : Word) (s : State) : (setPc v s).segov = s.segov := rfl
@[simp] theorem setPc_rep (v : Word) (s : State) : (setPc v s).rep = s.rep := rfl
@[simp] theorem setPc_map (v : Word) (s : State) : (setPc v s).map = s.map := rfl
@[simp] theorem setPc_latchInt (v : Word) (s : State) : (setPc v s).latchInt = s.latchInt := rfl
@[simp] theorem setPc_latchNmi (v : Word) (s : State) : (setPc v s).latchNmi = s.latchNmi := rfl
@[simp] theorem setPc_mem (v : Word) (s : State) : (setPc v s).mem = s.mem := rfl
@[simp] theorem setPc_devScript (v : Word) (s : State) : (setPc v s).devScript = s.devScript := rfl
@[simp] theorem setPc_devLog (v : Word) (s : State) : (setPc v s).devLog = s.devLog := rfl
@[simp] theorem setPc_trace (v : Word) (s : State) : (setPc v s).trace = s.trace := rfl
@[simp] theorem setPc_reg16 (v : Word) (r' : Reg16) (s : State) : (setPc v s).reg16 r' = s.reg16 r' := by
  cases r' <;> simp [State.reg16]
@[simp] theorem setPc_reg8 (v : Word) (r' : Reg8) (s : State) : (setPc v s).reg8 r' = s.reg8 r' := by
  simp [State.reg8]
@[simp] theorem setPc_sreg (v : Word) (j' : SReg) (s : State) : (setPc v s).sreg j' = s.sreg j' := by
  cases j' <;> simp [State.sreg]

/-! ### `decCx` -/

@[simp] theorem decCx_segs (s : State) : (decCx s).segs = s.segs := rfl
@[simp] theorem decCx_pc (s : State) : (decCx s).pc = s.pc := rfl
@[simp] theorem decCx_flags (s : State) : (decCx s).flags = s.flags := rfl
@[simp] theorem decCx_vector (s : State) : (decCx s).vector = s.vector := rfl
@[simp] theorem decCx_pending (s : State) : (decCx s).pending = s.pending := rfl
@[simp] theorem decCx_halted (s : State) : (decCx s).halted = s.halted := rfl
@[simp] theorem decCx_noint (s : State) : (decCx s).noint = s.noint := rfl
@[simp] theorem decCx_lineInt (s : State) : (decCx s).lineInt = s.lineInt := rfl
@[simp] theorem decCx_lineNmi (s : State) : (decCx s).lineNmi = s.lineNmi := rfl
@[simp] theorem decCx_resetReq (s : State) : (decCx s).resetReq = s.resetReq := rfl
@[simp] theorem decCx_segov (s : State) : (decCx s).segov = s.segov := rfl
@[simp] theorem decCx_rep (s : State) : (decCx s).rep = s.rep := rfl
@[simp] theorem decCx_map (s : State) : (decCx s).map = s.map := rfl
@[simp] theorem decCx_latchInt (s : State) : (decCx s).latchInt = s.latchInt := rfl
@[simp] theorem decCx_latchNmi (s : State) : (decCx s).latchNmi = s.latchNmi := rfl
@[simp] theorem decCx_mem (s : State) : (decCx s).mem = s.mem := rfl
@[simp] theorem decCx_devScript (s : State) : (decCx s).devScript = s.devScript := rfl
@[simp] theorem decCx_devLog (s : State) : (decCx s).devLog = s.devLog := rfl
@[simp] theorem decCx_trace (s : State) : (decCx s).trace = s.trace := rfl
@[simp] theorem decCx_sreg (j' : SReg) (s : State) : (decCx s).sreg j' = s.sreg j' := by
  cases j' <;> simp [State.sreg]

/-! ### `advanceSi` -/

@[simp] theorem advanceSi_segs (d : Word) (s : State) : (advanceSi d s).segs = s.segs := rfl
@[simp] theorem advanceSi_pc (d : Word) (s : State) : (advanceSi d s).pc = s.pc := rfl
@[simp] theorem advanceSi_flags (d : Word) (s : State) : (advanceSi d s).flags = s.flags := rfl
@[simp] theorem advanceSi_vector (d : Word) (s : State) : (advanceSi d s).vector = s.vector := rfl
@[simp] theorem advanceSi_pending (d : Word) (s : State) : (advanceSi d s).pending = s.pending := rfl
@[simp] theorem advanceSi_halted (d : Word) (s : State) : (advanceSi d s).halted = s.halted := rfl
@[simp] theorem advanceSi_noint (d : Word) (s : State) : (advanceSi d s).noint = s.noint := rfl
@[simp] theorem advanceSi_lineInt (d : Word) (s : State) : (advanceSi d s).lineInt = s.lineInt := rfl
@[simp] theorem advanceSi_lineNmi (d : Word) (s : State) : (advanceSi d s).lineNmi = s.lineNmi := rfl
@[simp] theorem advanceSi_resetReq (d : Word) (s : State) : (advanceSi d s).resetReq = s.resetReq := rfl
@[simp] theorem advanceSi_segov (d : Word) (s : State) : (advanceSi d s).segov = s.segov := rfl
@[simp] theorem advanceSi_rep (d : Word) (s : State) : (advanceSi d s).rep = s.rep := rfl
@[simp] theorem advanceSi_map (d : Word) (s : State) : (advanceSi d s).map = s.map := rfl
@[simp] theorem advanceSi_latchInt (d : Word) (s : State) : (advanceSi d s).latchInt = s.latchInt := rfl
@[simp] theorem advanceSi_latchNmi (d : Word) (s : State) : (advanceSi d s).latchNmi = s.latchNmi := rfl
@[simp] theorem advanceSi_mem (d : Word) (s : State) : (advanceSi d s).mem = s.mem := rfl
@[simp] theorem advanceSi_devScript (d : Word) (s : State) : (advanceSi d s).devScript = s.devScript := rfl
@[simp] theorem advanceSi_devLog (d : Word) (s : State) : (advanceSi d s).devLog = s.devLog := rfl
@[simp] theorem advanceSi_trace (d : Word) (s : State) : (advanceSi d s).trace = s.trace := rfl
@[simp] theorem advanceSi_sreg (d : Word) (j' : SReg) (s : State) : (advanceSi d s).sreg j' = s.sreg j' := by
  cases j' <;> simp [State.sreg]

/-! ### `advanceDi` -/

@[simp] theorem advanceDi_segs (d : Word) (s : State) : (advanceDi d s).segs = s.segs := rfl
@[simp] theorem advanceDi_pc (d : Word) (s : State) : (advanceDi d s).pc = s.pc := rfl
@[simp] theorem advanceDi_flags (d : Word) (s : State) : (advanceDi d s).flags = s.flags := rfl
@[simp] theorem advanceDi_vector (d : Word) (s : State) : (advanceDi d s).vector = s.vector := rfl
@[simp] theorem advanceDi_pending (d : Word) (s : State) : (advanceDi d s).pending = s.pending := rfl
@[simp] theorem advanceDi_halted (d : Word) (s : State) : (advanceDi d s).halted = s.halted := rfl
@[simp] theorem advanceDi_noint (d : Word) (s : State) : (advanceDi d s).noint = s.noint := rfl
@[simp] theorem advanceDi_lineInt (d : Word) (s : State) : (advanceDi d s).lineInt = s.lineInt := rfl
@[simp] theorem advanceDi_lineNmi (d : Word) (s : State) : (advanceDi d s).lineNmi = s.lineNmi := rfl
@[simp] theorem advanceDi_resetReq (d : Word) (s : State) : (advanceDi d s).resetReq = s.resetReq := rfl
@[simp] theorem advanceDi_segov (d : Word) (s : State) : (advanceDi d s).segov = s.segov := rfl
@[simp] theorem advanceDi_rep (d : Word) (s : State) : (advanceDi d s).rep = s.rep := rfl
@[simp] theorem advanceDi_map (d : Word) (s : State) : (advanceDi d s).map = s.map := rfl
@[simp] theorem advanceDi_latchInt (d : Word) (s : State) : (advanceDi d s).latchInt = s.latchInt := rfl
@[simp] theorem advanceDi_latchNmi (d : Word) (s : State) : (advanceDi d s).latchNmi = s.latchNmi := rfl
@[simp] theorem advanceDi_mem (d : Word) (s : State) : (advanceDi d s).mem = s.mem := rfl
@[simp] theorem advanceDi_devScript (d : Word) (s : State) : (advanceDi d s).devScript = s.devScript := rfl
@[simp] theorem advanceDi_devLog (d : Word) (s : State) : (advanceDi d s).devLog = s.devLog := rfl
@[simp] theorem advanceDi_trace (d : Word) (s : State) : (advanceDi d s).trace = s.trace := rfl
@[simp] theorem advanceDi_sreg (d : Word) (j' : SReg) (s : State) : (advanceDi d s).sreg j' = s.sreg j' := by
  cases j' <;> simp [State.sreg]

/-! ### `setPendingInt` -/

@[simp] theorem setPendingInt_regs (b : Bool) (s : State) : (setPendingInt b s).regs = s.regs := rfl
@[simp] theorem setPendingInt_segs (b : Bool) (s : State) : (setPendingInt b s).segs = s.segs := rfl
@[simp] theorem setPendingInt_pc (b : Bool) (s : State) : (setPendingInt b s).pc = s.pc := rfl
@[simp] theorem setPendingInt_flags (b : Bool) (s : State) : (setPendingInt b s).flags = s.flags := rfl
@[simp] theorem setPendingInt_vector (b : Bool) (s : State) : (setPendingInt b s).vector = s.vector := rfl
@[simp] theorem setPendingInt_halted (b : Bool) (s : State) : (setPendingInt b s).halted = s.halted := rfl
@[simp] theorem setPendingInt_noint (b : Bool) (s : State) : (setPendingInt b s).noint = s.noint := rfl
@[simp] theorem setPendingInt_lineInt (b : Bool) (s : State) : (setPendingInt b s).lineInt = s.lineInt := rfl
@[simp] theorem setPendingInt_lineNmi (b : Bool) (s : State) : (setPendingInt b s).lineNmi = s.lineNmi := rfl
@[simp] theorem setPendingInt_resetReq (b : Bool) (s : State) : (setPendingInt b s).resetReq = s.resetReq := rfl
@[simp] theorem setPendingInt_segov (b : Bool) (s : State) : (setPendingInt b s).segov = s.segov := rfl
@[simp] theorem setPendingInt_rep (b : Bool) (s : State) : (setPendingInt b s).rep = s.rep := rfl
@[simp] theorem setPendingInt_map (b : Bool) (s : State) : (setPendingInt b s).map = s.map := rfl
@[simp] theorem setPendingInt_latchInt (b : Bool) (s : State) : (setPendingInt b s).latchInt = s.latchInt := rfl
@[simp] theorem setPendingInt_latchNmi (b : Bool) (s : State) : (setPendingInt b s).latchNmi = s.latchNmi := rfl
@[simp] theorem setPendingInt_mem (b : Bool) (s : State) : (setPendingInt b s).mem = s.mem := rfl
@[simp] theorem setPendingInt_devScript (b : Bool) (s : State) : (setPendingInt b s).devScript = s.devScript := rfl
@[simp] theorem setPendingInt_devLog (b : Bool) (s : State) : (setPendingInt b s).devLog = s.devLog := rfl
@[simp] theorem setPendingInt_trace (b : Bool) (s : State) : (setPendingInt b s).trace = s.trace := rfl
@[simp] theorem setPendingInt_reg16 (b : Bool) (r' : Reg16) (s : State) : (setPendingInt b s).reg16 r' = s.reg16 r' := by
  cases r' <;> simp [State.reg16]
@[simp] theorem setPendingInt_reg8 (b : Bool) (r' : Reg8) (s : State) : (setPendingInt b s).reg8 r' = s.reg8 r' := by
  simp [State.reg8]
@[simp] theorem setPendingInt_sreg (b : Bool) (j' : SReg) (s : State) : (setPendingInt b s).sreg j' = s.sreg j' := by
  cases j' <;> simp [State.sreg]

/-! ### `setPendingNmi` -/

@[simp] theorem setPendingNmi_regs (b : Bool) (s : State) : (setPendingNmi b s).regs = s.regs := rfl
@[simp] theorem setPendingNmi_segs (b : Bool) (s : State) : (setPendingNmi b s).segs = s.segs := rfl
@[simp] theorem setPendingNmi_pc (b : Bool) (s : State) : (setPendingNmi b s).pc = s.pc := rfl
@[simp] theorem setPendingNmi_flags (b : Bool) (s : State) : (setPendingNmi b s).flags = s.flags := rfl
@[simp] theorem setPendingNmi_vector (b : Bool) (s : State) : (setPendingNmi b s).vector = s.vector := rfl
@[simp] theorem setPendingNmi_halted (b : Bool) (s : State) : (setPendingNmi b s).halted = s.halted := rfl
@[simp] theorem setPendingNmi_noint (b : Bool) (s : State) : (setPendingNmi b s).noint = s.noint := rfl
@[simp] theorem setPendingNmi_lineInt (b : Bool) (s : State) : (setPendingNmi b s).lineInt = s.lineInt := rfl
@[simp] theorem setPendingNmi_lineNmi (b : Bool) (s : State) : (setPendingNmi b s).lineNmi = s.lineNmi := rfl
@[simp] theorem setPendingNmi_resetReq (b : Bool) (s : State) : (setPendingNmi b s).resetReq = s.resetReq := rfl
@[simp] theorem setPendingNmi_segov (b : Bool) (s : State) : (setPendingNmi b s).segov = s.segov := rfl
@[simp] theorem setPendingNmi_rep (b : Bool) (s : State) : (setPendingNmi b s).rep = s.rep := rfl
@[simp] theorem setPendingNmi_map (b : Bool) (s : State) : (setPendingNmi b s).map = s.map := rfl
@[simp] theorem setPendingNmi_latchInt (b : Bool) (s : State) : (setPendingNmi b s).latchInt = s.latchInt := rfl
@[simp] theorem setPendingNmi_latchNmi (b : Bool) (s : State) : (setPendingNmi b s).latchNmi = s.latchNmi := rfl
@[simp] theorem setPendingNmi_mem (b : Bool) (s : State) : (setPendingNmi b s).mem = s.mem := rfl
@[simp] theorem setPendingNmi_devScript (b : Bool) (s : State) : (setPendingNmi b s).devScript = s.devScript := rfl
@[simp] theorem setPendingNmi_devLog (b : Bool) (s : State) : (setPendingNmi b s).devLog = s.devLog := rfl
@[simp] theorem setPendingNmi_trace (b : Bool) (s : State) : (setPendingNmi b s).trace = s.trace := rfl
@[simp] theorem setPendingNmi_reg16 (b : Bool) (r' : Reg16) (s : State) : (setPendingNmi b s).reg16 r' = s.reg16 r' := by
  cases r' <;> simp [State.reg16]
@[simp] theorem setPendingNmi_reg8 (b : Bool) (r' : Reg8) (s : State) : (setPendingNmi b s).reg8 r' = s.reg8 r' := by
  simp [State.reg8]
@[simp] theorem setPendingNmi_sreg (b : Bool) (j' : SReg) (s : State) : (setPendingNmi b s).sreg j' = s.sreg j' := by
  cases j' <;> simp [State.sreg]

/-! ### `noteCall` -/

@[simp] theorem noteCall_regs (e : DevEvent) (s : State) : (noteCall e s).regs = s.regs := rfl
@[simp] theorem noteCall_segs (e : DevEvent) (s : State) : (noteCall e s).segs = s.segs := rfl
@[simp] theorem noteCall_pc (e : DevEvent) (s : State) : (noteCall e s).pc = s.pc := rfl
@[simp] theorem noteCall_flags (e : DevEvent) (s : State) : (noteCall e s).flags = s.flags := rfl
@[simp] theorem noteCall_vector (e : DevEvent) (s : State) : (noteCall e s).vector = s.vector := rfl
@[simp] theorem noteCall_pending (e : DevEvent) (s : State) : (noteCall e s).pending = s.pending := rfl
@[simp] theorem noteCall_halted (e : DevEvent) (s : State) : (noteCall e s).halted = s.halted := rfl
@[simp] theorem noteCall_noint (e : DevEvent) (s : State) : (noteCall e s).noint = s.noint := rfl
@[simp] theorem noteCall_lineInt (e : DevEvent) (s : State) : (noteCall e s).lineInt = s.lineInt := rfl
@[simp] theorem noteCall_lineNmi (e : DevEvent) (s : State) : (noteCall e s).lineNmi = s.lineNmi := rfl
@[simp] theorem noteCall_resetReq (e : DevEvent) (s : State) : (noteCall e s).resetReq = s.resetReq := rfl
@[simp] theorem noteCall_segov (e : DevEvent) (s : State) : (noteCall e s).segov = s.segov := rfl
@[simp] theorem noteCall_rep (e : DevEvent) (s : State) : (noteCall e s).rep = s.rep := rfl
@[simp] theorem noteCall_map (e : DevEvent) (s : State) : (noteCall e s).map = s.map := rfl
@[simp] theorem noteCall_latchInt (e : DevEvent) (s : State) : (noteCall e s).latchInt = s.latchInt := rfl
@[simp] theorem noteCall_latchNmi (e : DevEvent) (s : State) : (noteCall e s).latchNmi = s.latchNmi := rfl
@[simp] theorem noteCall_mem (e : DevEvent) (s : State) : (noteCall e s).mem = s.mem := rfl
@[simp] theorem noteCall_trace (e : DevEvent) (s : State) : (noteCall e s).trace = s.trace := rfl
@[simp] theorem noteCall_reg16 (e : DevEvent) (r' : Reg16) (s : State) : (noteCall e s).reg16 r' = s.reg16 r' := by
  cases r' <;> simp [State.reg16]
@[simp] theorem noteCall_reg8 (e : DevEvent) (r' : Reg8) (s : State) : (noteCall e s).reg8 r' = s.reg8 r' := by
  simp [State.reg8]
@[simp] theorem noteCall_sreg (e : DevEvent) (j' : SReg) (s : State) : (noteCall e s).sreg j' = s.sreg j' := by
  cases j' <;> simp [State.sreg]

/-! ### What the updates write -/

@[simp] theorem setFlags_flags (f : Word) (s : State) : (setFlags f s).flags = f := rfl
@[simp] theorem setFlag_flags (x : Flag) (b : Bool) (s : State) : (setFlag x b s).flags = putFlag x b s.flags := rfl
@[simp] theorem setPc_pc (v : Word) (s : State) : (setPc v s).pc = v := rfl
@[simp] theorem setReg16_sp_regs (v : Word) (s : State) : (setReg16 .sp v s).regs = { s.regs with sp := v } := rfl
@[simp] theorem decCx_regs (s : State) : (decCx s).regs = { s.regs with cx := s.regs.cx - 1 } := rfl
@[simp] theorem advanceSi_regs (d : Word) (s : State) : (advanceSi d s).regs = { s.regs with si := s.regs.si + d } := rfl
@[simp] theorem advanceDi_regs (d : Word) (s : State) : (advanceDi d s).regs = { s.regs with di := s.regs.di + d } := rfl

/-- A 16-bit register after a 16-bit register write (10_state R20). -/
@[simp] theorem reg16_setReg16 (r r' : Reg16) (v : Word) (s : State) :
    (setReg16 r v s).reg16 r' = if r' = r then v else s.reg16 r' := by
  cases r <;> cases r' <;> simp [setReg16, State.reg16]

/-- A segment register after a segment register write (10_state R30). -/
@[simp] theorem sreg_setSreg (j j' : SReg) (v : Word) (s : State) :
    (setSreg j v s).sreg j' = if j' = j then v else s.sreg j' := by
  cases j <;> cases j' <;> simp [setSreg, State.sreg]

/-- A 16-bit register write sets exactly one field of the register file. -/
theorem setReg16_reg16_of_ne {r r' : Reg16} (h : r' ≠ r) (v : Word) (s : State) :
    (setReg16 r v s).reg16 r' = s.reg16 r' := by
  simp [h]

/-- An 8-bit register write leaves every 16-bit register but the whole it is half of (10_state R21). -/
theorem setReg8_reg16_of_ne {r : Reg8} {r' : Reg16} (h : r' ≠ wholeOf r) (v : Byte) (s : State) :
    (setReg8 r v s).reg16 r' = s.reg16 r' := by
  simp [setReg8, h]

@[simp] theorem reg16_ax (s : State) : s.reg16 .ax = s.regs.ax := rfl
@[simp] theorem reg16_cx (s : State) : s.reg16 .cx = s.regs.cx := rfl
@[simp] theorem reg16_dx (s : State) : s.reg16 .dx = s.regs.dx := rfl
@[simp] theorem reg16_bx (s : State) : s.reg16 .bx = s.regs.bx := rfl
@[simp] theorem reg16_sp (s : State) : s.reg16 .sp = s.regs.sp := rfl
@[simp] theorem reg16_bp (s : State) : s.reg16 .bp = s.regs.bp := rfl
@[simp] theorem reg16_si (s : State) : s.reg16 .si = s.regs.si := rfl
@[simp] theorem reg16_di (s : State) : s.reg16 .di = s.regs.di := rfl
@[simp] theorem sreg_es (s : State) : s.sreg .es = s.segs.es := rfl
@[simp] theorem sreg_cs (s : State) : s.sreg .cs = s.segs.cs := rfl
@[simp] theorem sreg_ss (s : State) : s.sreg .ss = s.segs.ss := rfl
@[simp] theorem sreg_ds (s : State) : s.sreg .ds = s.segs.ds := rfl

end Sys2Proof.Laws
end

