-- ==== Sys2Proof/Laws/Access.lean ====
section
/-! SUPPORT. What a Router access can change: a read changes only what a handler call may (20_memory R56, R57), a write that
and the stores. One lemma per field for each access. -/

namespace Sys2Proof.Laws

open Sys2Proof Sys2Proof.Machine

/-- `t` differs from `s` at most in the stores and in what a handler call changes: PENDING, LINE, the reset request, the
device script and log. -/
structure StoreFrame (s t : State) : Prop where
  regs : t.regs = s.regs
  segs : t.segs = s.segs
  pc : t.pc = s.pc
  flags : t.flags = s.flags
  vector : t.vector = s.vector
  halted : t.halted = s.halted
  noint : t.noint = s.noint
  segov : t.segov = s.segov
  rep : t.rep = s.rep
  map : t.map = s.map
  latchInt : t.latchInt = s.latchInt
  latchNmi : t.latchNmi = s.latchNmi
  trace : t.trace = s.trace

/-- `t` differs from `s` at most in what a handler call changes. -/
structure ReadFrame (s t : State) : Prop extends StoreFrame s t where
  mem : t.mem = s.mem

theorem StoreFrame.refl (s : State) : StoreFrame s s := by constructor <;> rfl

theorem ReadFrame.refl (s : State) : ReadFrame s s := ⟨.refl s, rfl⟩

theorem StoreFrame.trans {s t u : State} (h : StoreFrame s t) (k : StoreFrame t u) : StoreFrame s u := by
  constructor
  · exact k.regs.trans h.regs
  · exact k.segs.trans h.segs
  · exact k.pc.trans h.pc
  · exact k.flags.trans h.flags
  · exact k.vector.trans h.vector
  · exact k.halted.trans h.halted
  · exact k.noint.trans h.noint
  · exact k.segov.trans h.segov
  · exact k.rep.trans h.rep
  · exact k.map.trans h.map
  · exact k.latchInt.trans h.latchInt
  · exact k.latchNmi.trans h.latchNmi
  · exact k.trace.trans h.trace

theorem ReadFrame.trans {s t u : State} (h : ReadFrame s t) (k : ReadFrame t u) : ReadFrame s u :=
  ⟨h.toStoreFrame.trans k.toStoreFrame, k.mem.trans h.mem⟩

theorem setIrqLine_frame (line level : Nat) (s : State) : ReadFrame s (setIrqLine line level s) := by
  unfold setIrqLine
  split <;> exact ⟨by constructor <;> rfl, rfl⟩

theorem irqCalls_frame (calls : List IrqCall) (s : State) :
    ReadFrame s (calls.foldl (fun t c => setIrqLine c.line c.level t) s) := by
  induction calls generalizing s with
  | nil => exact .refl s
  | cons c rest ih => exact (setIrqLine_frame c.line c.level s).trans (ih _)

theorem applyAnswer_frame (a : DevAnswer) (s : State) : ReadFrame s (applyAnswer a s) :=
  (irqCalls_frame a.irqs s).trans ⟨by constructor <;> rfl, rfl⟩

theorem callDevice_frame (e : DevEvent) (s : State) : ReadFrame s (callDevice e s).2 :=
  ReadFrame.trans (t := noteCall e s) ⟨by constructor <;> rfl, rfl⟩ (applyAnswer_frame _ _)

theorem read8_frame (a : Addr) (s : State) : ReadFrame s (read8 a s).2 := by
  unfold read8
  split
  · exact .refl s
  · split
    · exact .refl s
    · exact .refl s
    · split
      · exact callDevice_frame _ s
      · exact .refl s

theorem write8_frame (a : Addr) (v : Byte) (s : State) : StoreFrame s (write8 a v s) := by
  unfold write8
  split
  · exact .refl s
  · split
    · constructor <;> rfl
    · exact .refl s
    · split
      · exact (callDevice_frame _ s).toStoreFrame
      · exact .refl s

theorem memRead_frame (addr n : Nat) (s : State) : ReadFrame s (memRead addr n s).2 := by
  induction n generalizing addr s with
  | zero => exact .refl s
  | succ n ih => exact (read8_frame _ s).trans (ih _ _)

theorem memWrite_frame (addr n v : Nat) (s : State) : StoreFrame s (memWrite addr n v s) := by
  induction n generalizing addr v s with
  | zero => exact .refl s
  | succ n ih => exact (write8_frame _ _ s).trans (ih _ _ _)

theorem segRead8_frame (j : SReg) (off : Word) (s : State) : ReadFrame s (segRead8 j off s).2 := read8_frame _ s

theorem segRead16_frame (j : SReg) (off : Word) (s : State) : ReadFrame s (segRead16 j off s).2 :=
  (read8_frame _ s).trans (read8_frame _ _)

theorem segWrite8_frame (j : SReg) (off : Word) (v : Byte) (s : State) : StoreFrame s (segWrite8 j off v s) :=
  write8_frame _ _ s

theorem segWrite16_frame (j : SReg) (off v : Word) (s : State) : StoreFrame s (segWrite16 j off v s) :=
  (write8_frame _ _ s).trans (write8_frame _ _ _)

theorem readPlace8_frame (p : Place8) (s : State) : ReadFrame s (readPlace8 p s).2 := by
  cases p with
  | reg r => exact .refl s
  | mem j off => exact segRead8_frame j off s

theorem readPlace16_frame (p : Place16) (s : State) : ReadFrame s (readPlace16 p s).2 := by
  cases p with
  | reg r => exact .refl s
  | mem j off => exact segRead16_frame j off s

theorem readFar_frame (m : MemRef) (s : State) : ReadFrame s (readFar m s).2 :=
  (segRead16_frame _ _ s).trans (segRead16_frame _ _ _)

/-! ### `callDevice` -/

@[simp] theorem callDevice_regs (e : DevEvent) (s : State) : (callDevice e s).2.regs = s.regs := (callDevice_frame e s).regs
@[simp] theorem callDevice_segs (e : DevEvent) (s : State) : (callDevice e s).2.segs = s.segs := (callDevice_frame e s).segs
@[simp] theorem callDevice_pc (e : DevEvent) (s : State) : (callDevice e s).2.pc = s.pc := (callDevice_frame e s).pc
@[simp] theorem callDevice_flags (e : DevEvent) (s : State) : (callDevice e s).2.flags = s.flags := (callDevice_frame e s).flags
@[simp] theorem callDevice_vector (e : DevEvent) (s : State) : (callDevice e s).2.vector = s.vector := (callDevice_frame e s).vector
@[simp] theorem callDevice_halted (e : DevEvent) (s : State) : (callDevice e s).2.halted = s.halted := (callDevice_frame e s).halted
@[simp] theorem callDevice_noint (e : DevEvent) (s : State) : (callDevice e s).2.noint = s.noint := (callDevice_frame e s).noint
@[simp] theorem callDevice_segov (e : DevEvent) (s : State) : (callDevice e s).2.segov = s.segov := (callDevice_frame e s).segov
@[simp] theorem callDevice_rep (e : DevEvent) (s : State) : (callDevice e s).2.rep = s.rep := (callDevice_frame e s).rep
@[simp] theorem callDevice_map (e : DevEvent) (s : State) : (callDevice e s).2.map = s.map := (callDevice_frame e s).map
@[simp] theorem callDevice_latchInt (e : DevEvent) (s : State) : (callDevice e s).2.latchInt = s.latchInt := (callDevice_frame e s).latchInt
@[simp] theorem callDevice_latchNmi (e : DevEvent) (s : State) : (callDevice e s).2.latchNmi = s.latchNmi := (callDevice_frame e s).latchNmi
@[simp] theorem callDevice_trace (e : DevEvent) (s : State) : (callDevice e s).2.trace = s.trace := (callDevice_frame e s).trace
@[simp] theorem callDevice_mem (e : DevEvent) (s : State) : (callDevice e s).2.mem = s.mem := (callDevice_frame e s).mem
@[simp] theorem callDevice_reg16 (e : DevEvent) (r' : Reg16) (s : State) : (callDevice e s).2.reg16 r' = s.reg16 r' := by
  cases r' <;> simp [State.reg16]
@[simp] theorem callDevice_reg8 (e : DevEvent) (r' : Reg8) (s : State) : (callDevice e s).2.reg8 r' = s.reg8 r' := by
  simp [State.reg8]
@[simp] theorem callDevice_sreg (e : DevEvent) (j' : SReg) (s : State) : (callDevice e s).2.sreg j' = s.sreg j' := by
  cases j' <;> simp [State.sreg]

/-! ### `read8` -/

@[simp] theorem read8_regs (a : Addr) (s : State) : (read8 a s).2.regs = s.regs := (read8_frame a s).regs
@[simp] theorem read8_segs (a : Addr) (s : State) : (read8 a s).2.segs = s.segs := (read8_frame a s).segs
@[simp] theorem read8_pc (a : Addr) (s : State) : (read8 a s).2.pc = s.pc := (read8_frame a s).pc
@[simp] theorem read8_flags (a : Addr) (s : State) : (read8 a s).2.flags = s.flags := (read8_frame a s).flags
@[simp] theorem read8_vector (a : Addr) (s : State) : (read8 a s).2.vector = s.vector := (read8_frame a s).vector
@[simp] theorem read8_halted (a : Addr) (s : State) : (read8 a s).2.halted = s.halted := (read8_frame a s).halted
@[simp] theorem read8_noint (a : Addr) (s : State) : (read8 a s).2.noint = s.noint := (read8_frame a s).noint
@[simp] theorem read8_segov (a : Addr) (s : State) : (read8 a s).2.segov = s.segov := (read8_frame a s).segov
@[simp] theorem read8_rep (a : Addr) (s : State) : (read8 a s).2.rep = s.rep := (read8_frame a s).rep
@[simp] theorem read8_map (a : Addr) (s : State) : (read8 a s).2.map = s.map := (read8_frame a s).map
@[simp] theorem read8_latchInt (a : Addr) (s : State) : (read8 a s).2.latchInt = s.latchInt := (read8_frame a s).latchInt
@[simp] theorem read8_latchNmi (a : Addr) (s : State) : (read8 a s).2.latchNmi = s.latchNmi := (read8_frame a s).latchNmi
@[simp] theorem read8_trace (a : Addr) (s : State) : (read8 a s).2.trace = s.trace := (read8_frame a s).trace
@[simp] theorem read8_mem (a : Addr) (s : State) : (read8 a s).2.mem = s.mem := (read8_frame a s).mem
@[simp] theorem read8_reg16 (a : Addr) (r' : Reg16) (s : State) : (read8 a s).2.reg16 r' = s.reg16 r' := by
  cases r' <;> simp [State.reg16]
@[simp] theorem read8_reg8 (a : Addr) (r' : Reg8) (s : State) : (read8 a s).2.reg8 r' = s.reg8 r' := by
  simp [State.reg8]
@[simp] theorem read8_sreg (a : Addr) (j' : SReg) (s : State) : (read8 a s).2.sreg j' = s.sreg j' := by
  cases j' <;> simp [State.sreg]

/-! ### `memRead` -/

@[simp] theorem memRead_regs (addr n : Nat) (s : State) : (memRead addr n s).2.regs = s.regs := (memRead_frame addr n s).regs
@[simp] theorem memRead_segs (addr n : Nat) (s : State) : (memRead addr n s).2.segs = s.segs := (memRead_frame addr n s).segs
@[simp] theorem memRead_pc (addr n : Nat) (s : State) : (memRead addr n s).2.pc = s.pc := (memRead_frame addr n s).pc
@[simp] theorem memRead_flags (addr n : Nat) (s : State) : (memRead addr n s).2.flags = s.flags := (memRead_frame addr n s).flags
@[simp] theorem memRead_vector (addr n : Nat) (s : State) : (memRead addr n s).2.vector = s.vector := (memRead_frame addr n s).vector
@[simp] theorem memRead_halted (addr n : Nat) (s : State) : (memRead addr n s).2.halted = s.halted := (memRead_frame addr n s).halted
@[simp] theorem memRead_noint (addr n : Nat) (s : State) : (memRead addr n s).2.noint = s.noint := (memRead_frame addr n s).noint
@[simp] theorem memRead_segov (addr n : Nat) (s : State) : (memRead addr n s).2.segov = s.segov := (memRead_frame addr n s).segov
@[simp] theorem memRead_rep (addr n : Nat) (s : State) : (memRead addr n s).2.rep = s.rep := (memRead_frame addr n s).rep
@[simp] theorem memRead_map (addr n : Nat) (s : State) : (memRead addr n s).2.map = s.map := (memRead_frame addr n s).map
@[simp] theorem memRead_latchInt (addr n : Nat) (s : State) : (memRead addr n s).2.latchInt = s.latchInt := (memRead_frame addr n s).latchInt
@[simp] theorem memRead_latchNmi (addr n : Nat) (s : State) : (memRead addr n s).2.latchNmi = s.latchNmi := (memRead_frame addr n s).latchNmi
@[simp] theorem memRead_trace (addr n : Nat) (s : State) : (memRead addr n s).2.trace = s.trace := (memRead_frame addr n s).trace
@[simp] theorem memRead_mem (addr n : Nat) (s : State) : (memRead addr n s).2.mem = s.mem := (memRead_frame addr n s).mem
@[simp] theorem memRead_reg16 (addr n : Nat) (r' : Reg16) (s : State) : (memRead addr n s).2.reg16 r' = s.reg16 r' := by
  cases r' <;> simp [State.reg16]
@[simp] theorem memRead_reg8 (addr n : Nat) (r' : Reg8) (s : State) : (memRead addr n s).2.reg8 r' = s.reg8 r' := by
  simp [State.reg8]
@[simp] theorem memRead_sreg (addr n : Nat) (j' : SReg) (s : State) : (memRead addr n s).2.sreg j' = s.sreg j' := by
  cases j' <;> simp [State.sreg]

/-! ### `segRead8` -/

@[simp] theorem segRead8_regs (j : SReg) (off : Word) (s : State) : (segRead8 j off s).2.regs = s.regs := (segRead8_frame j off s).regs
@[simp] theorem segRead8_segs (j : SReg) (off : Word) (s : State) : (segRead8 j off s).2.segs = s.segs := (segRead8_frame j off s).segs
@[simp] theorem segRead8_pc (j : SReg) (off : Word) (s : State) : (segRead8 j off s).2.pc = s.pc := (segRead8_frame j off s).pc
@[simp] theorem segRead8_flags (j : SReg) (off : Word) (s : State) : (segRead8 j off s).2.flags = s.flags := (segRead8_frame j off s).flags
@[simp] theorem segRead8_vector (j : SReg) (off : Word) (s : State) : (segRead8 j off s).2.vector = s.vector := (segRead8_frame j off s).vector
@[simp] theorem segRead8_halted (j : SReg) (off : Word) (s : State) : (segRead8 j off s).2.halted = s.halted := (segRead8_frame j off s).halted
@[simp] theorem segRead8_noint (j : SReg) (off : Word) (s : State) : (segRead8 j off s).2.noint = s.noint := (segRead8_frame j off s).noint
@[simp] theorem segRead8_segov (j : SReg) (off : Word) (s : State) : (segRead8 j off s).2.segov = s.segov := (segRead8_frame j off s).segov
@[simp] theorem segRead8_rep (j : SReg) (off : Word) (s : State) : (segRead8 j off s).2.rep = s.rep := (segRead8_frame j off s).rep
@[simp] theorem segRead8_map (j : SReg) (off : Word) (s : State) : (segRead8 j off s).2.map = s.map := (segRead8_frame j off s).map
@[simp] theorem segRead8_latchInt (j : SReg) (off : Word) (s : State) : (segRead8 j off s).2.latchInt = s.latchInt := (segRead8_frame j off s).latchInt
@[simp] theorem segRead8_latchNmi (j : SReg) (off : Word) (s : State) : (segRead8 j off s).2.latchNmi = s.latchNmi := (segRead8_frame j off s).latchNmi
@[simp] theorem segRead8_trace (j : SReg) (off : Word) (s : State) : (segRead8 j off s).2.trace = s.trace := (segRead8_frame j off s).trace
@[simp] theorem segRead8_mem (j : SReg) (off : Word) (s : State) : (segRead8 j off s).2.mem = s.mem := (segRead8_frame j off s).mem
@[simp] theorem segRead8_reg16 (j : SReg) (off : Word) (r' : Reg16) (s : State) : (segRead8 j off s).2.reg16 r' = s.reg16 r' := by
  cases r' <;> simp [State.reg16]
@[simp] theorem segRead8_reg8 (j : SReg) (off : Word) (r' : Reg8) (s : State) : (segRead8 j off s).2.reg8 r' = s.reg8 r' := by
  simp [State.reg8]
@[simp] theorem segRead8_sreg (j : SReg) (off : Word) (j' : SReg) (s : State) : (segRead8 j off s).2.sreg j' = s.sreg j' := by
  cases j' <;> simp [State.sreg]

/-! ### `segRead16` -/

@[simp] theorem segRead16_regs (j : SReg) (off : Word) (s : State) : (segRead16 j off s).2.regs = s.regs := (segRead16_frame j off s).regs
@[simp] theorem segRead16_segs (j : SReg) (off : Word) (s : State) : (segRead16 j off s).2.segs = s.segs := (segRead16_frame j off s).segs
@[simp] theorem segRead16_pc (j : SReg) (off : Word) (s : State) : (segRead16 j off s).2.pc = s.pc := (segRead16_frame j off s).pc
@[simp] theorem segRead16_flags (j : SReg) (off : Word) (s : State) : (segRead16 j off s).2.flags = s.flags := (segRead16_frame j off s).flags
@[simp] theorem segRead16_vector (j : SReg) (off : Word) (s : State) : (segRead16 j off s).2.vector = s.vector := (segRead16_frame j off s).vector
@[simp] theorem segRead16_halted (j : SReg) (off : Word) (s : State) : (segRead16 j off s).2.halted = s.halted := (segRead16_frame j off s).halted
@[simp] theorem segRead16_noint (j : SReg) (off : Word) (s : State) : (segRead16 j off s).2.noint = s.noint := (segRead16_frame j off s).noint
@[simp] theorem segRead16_segov (j : SReg) (off : Word) (s : State) : (segRead16 j off s).2.segov = s.segov := (segRead16_frame j off s).segov
@[simp] theorem segRead16_rep (j : SReg) (off : Word) (s : State) : (segRead16 j off s).2.rep = s.rep := (segRead16_frame j off s).rep
@[simp] theorem segRead16_map (j : SReg) (off : Word) (s : State) : (segRead16 j off s).2.map = s.map := (segRead16_frame j off s).map
@[simp] theorem segRead16_latchInt (j : SReg) (off : Word) (s : State) : (segRead16 j off s).2.latchInt = s.latchInt := (segRead16_frame j off s).latchInt
@[simp] theorem segRead16_latchNmi (j : SReg) (off : Word) (s : State) : (segRead16 j off s).2.latchNmi = s.latchNmi := (segRead16_frame j off s).latchNmi
@[simp] theorem segRead16_trace (j : SReg) (off : Word) (s : State) : (segRead16 j off s).2.trace = s.trace := (segRead16_frame j off s).trace
@[simp] theorem segRead16_mem (j : SReg) (off : Word) (s : State) : (segRead16 j off s).2.mem = s.mem := (segRead16_frame j off s).mem
@[simp] theorem segRead16_reg16 (j : SReg) (off : Word) (r' : Reg16) (s : State) : (segRead16 j off s).2.reg16 r' = s.reg16 r' := by
  cases r' <;> simp [State.reg16]
@[simp] theorem segRead16_reg8 (j : SReg) (off : Word) (r' : Reg8) (s : State) : (segRead16 j off s).2.reg8 r' = s.reg8 r' := by
  simp [State.reg8]
@[simp] theorem segRead16_sreg (j : SReg) (off : Word) (j' : SReg) (s : State) : (segRead16 j off s).2.sreg j' = s.sreg j' := by
  cases j' <;> simp [State.sreg]

/-! ### `readPlace8` -/

@[simp] theorem readPlace8_regs (p : Place8) (s : State) : (readPlace8 p s).2.regs = s.regs := (readPlace8_frame p s).regs
@[simp] theorem readPlace8_segs (p : Place8) (s : State) : (readPlace8 p s).2.segs = s.segs := (readPlace8_frame p s).segs
@[simp] theorem readPlace8_pc (p : Place8) (s : State) : (readPlace8 p s).2.pc = s.pc := (readPlace8_frame p s).pc
@[simp] theorem readPlace8_flags (p : Place8) (s : State) : (readPlace8 p s).2.flags = s.flags := (readPlace8_frame p s).flags
@[simp] theorem readPlace8_vector (p : Place8) (s : State) : (readPlace8 p s).2.vector = s.vector := (readPlace8_frame p s).vector
@[simp] theorem readPlace8_halted (p : Place8) (s : State) : (readPlace8 p s).2.halted = s.halted := (readPlace8_frame p s).halted
@[simp] theorem readPlace8_noint (p : Place8) (s : State) : (readPlace8 p s).2.noint = s.noint := (readPlace8_frame p s).noint
@[simp] theorem readPlace8_segov (p : Place8) (s : State) : (readPlace8 p s).2.segov = s.segov := (readPlace8_frame p s).segov
@[simp] theorem readPlace8_rep (p : Place8) (s : State) : (readPlace8 p s).2.rep = s.rep := (readPlace8_frame p s).rep
@[simp] theorem readPlace8_map (p : Place8) (s : State) : (readPlace8 p s).2.map = s.map := (readPlace8_frame p s).map
@[simp] theorem readPlace8_latchInt (p : Place8) (s : State) : (readPlace8 p s).2.latchInt = s.latchInt := (readPlace8_frame p s).latchInt
@[simp] theorem readPlace8_latchNmi (p : Place8) (s : State) : (readPlace8 p s).2.latchNmi = s.latchNmi := (readPlace8_frame p s).latchNmi
@[simp] theorem readPlace8_trace (p : Place8) (s : State) : (readPlace8 p s).2.trace = s.trace := (readPlace8_frame p s).trace
@[simp] theorem readPlace8_mem (p : Place8) (s : State) : (readPlace8 p s).2.mem = s.mem := (readPlace8_frame p s).mem
@[simp] theorem readPlace8_reg16 (p : Place8) (r' : Reg16) (s : State) : (readPlace8 p s).2.reg16 r' = s.reg16 r' := by
  cases r' <;> simp [State.reg16]
@[simp] theorem readPlace8_reg8 (p : Place8) (r' : Reg8) (s : State) : (readPlace8 p s).2.reg8 r' = s.reg8 r' := by
  simp [State.reg8]
@[simp] theorem readPlace8_sreg (p : Place8) (j' : SReg) (s : State) : (readPlace8 p s).2.sreg j' = s.sreg j' := by
  cases j' <;> simp [State.sreg]

/-! ### `readPlace16` -/

@[simp] theorem readPlace16_regs (p : Place16) (s : State) : (readPlace16 p s).2.regs = s.regs := (readPlace16_frame p s).regs
@[simp] theorem readPlace16_segs (p : Place16) (s : State) : (readPlace16 p s).2.segs = s.segs := (readPlace16_frame p s).segs
@[simp] theorem readPlace16_pc (p : Place16) (s : State) : (readPlace16 p s).2.pc = s.pc := (readPlace16_frame p s).pc
@[simp] theorem readPlace16_flags (p : Place16) (s : State) : (readPlace16 p s).2.flags = s.flags := (readPlace16_frame p s).flags
@[simp] theorem readPlace16_vector (p : Place16) (s : State) : (readPlace16 p s).2.vector = s.vector := (readPlace16_frame p s).vector
@[simp] theorem readPlace16_halted (p : Place16) (s : State) : (readPlace16 p s).2.halted = s.halted := (readPlace16_frame p s).halted
@[simp] theorem readPlace16_noint (p : Place16) (s : State) : (readPlace16 p s).2.noint = s.noint := (readPlace16_frame p s).noint
@[simp] theorem readPlace16_segov (p : Place16) (s : State) : (readPlace16 p s).2.segov = s.segov := (readPlace16_frame p s).segov
@[simp] theorem readPlace16_rep (p : Place16) (s : State) : (readPlace16 p s).2.rep = s.rep := (readPlace16_frame p s).rep
@[simp] theorem readPlace16_map (p : Place16) (s : State) : (readPlace16 p s).2.map = s.map := (readPlace16_frame p s).map
@[simp] theorem readPlace16_latchInt (p : Place16) (s : State) : (readPlace16 p s).2.latchInt = s.latchInt := (readPlace16_frame p s).latchInt
@[simp] theorem readPlace16_latchNmi (p : Place16) (s : State) : (readPlace16 p s).2.latchNmi = s.latchNmi := (readPlace16_frame p s).latchNmi
@[simp] theorem readPlace16_trace (p : Place16) (s : State) : (readPlace16 p s).2.trace = s.trace := (readPlace16_frame p s).trace
@[simp] theorem readPlace16_mem (p : Place16) (s : State) : (readPlace16 p s).2.mem = s.mem := (readPlace16_frame p s).mem
@[simp] theorem readPlace16_reg16 (p : Place16) (r' : Reg16) (s : State) : (readPlace16 p s).2.reg16 r' = s.reg16 r' := by
  cases r' <;> simp [State.reg16]
@[simp] theorem readPlace16_reg8 (p : Place16) (r' : Reg8) (s : State) : (readPlace16 p s).2.reg8 r' = s.reg8 r' := by
  simp [State.reg8]
@[simp] theorem readPlace16_sreg (p : Place16) (j' : SReg) (s : State) : (readPlace16 p s).2.sreg j' = s.sreg j' := by
  cases j' <;> simp [State.sreg]

/-! ### `readFar` -/

@[simp] theorem readFar_regs (m : MemRef) (s : State) : (readFar m s).2.regs = s.regs := (readFar_frame m s).regs
@[simp] theorem readFar_segs (m : MemRef) (s : State) : (readFar m s).2.segs = s.segs := (readFar_frame m s).segs
@[simp] theorem readFar_pc (m : MemRef) (s : State) : (readFar m s).2.pc = s.pc := (readFar_frame m s).pc
@[simp] theorem readFar_flags (m : MemRef) (s : State) : (readFar m s).2.flags = s.flags := (readFar_frame m s).flags
@[simp] theorem readFar_vector (m : MemRef) (s : State) : (readFar m s).2.vector = s.vector := (readFar_frame m s).vector
@[simp] theorem readFar_halted (m : MemRef) (s : State) : (readFar m s).2.halted = s.halted := (readFar_frame m s).halted
@[simp] theorem readFar_noint (m : MemRef) (s : State) : (readFar m s).2.noint = s.noint := (readFar_frame m s).noint
@[simp] theorem readFar_segov (m : MemRef) (s : State) : (readFar m s).2.segov = s.segov := (readFar_frame m s).segov
@[simp] theorem readFar_rep (m : MemRef) (s : State) : (readFar m s).2.rep = s.rep := (readFar_frame m s).rep
@[simp] theorem readFar_map (m : MemRef) (s : State) : (readFar m s).2.map = s.map := (readFar_frame m s).map
@[simp] theorem readFar_latchInt (m : MemRef) (s : State) : (readFar m s).2.latchInt = s.latchInt := (readFar_frame m s).latchInt
@[simp] theorem readFar_latchNmi (m : MemRef) (s : State) : (readFar m s).2.latchNmi = s.latchNmi := (readFar_frame m s).latchNmi
@[simp] theorem readFar_trace (m : MemRef) (s : State) : (readFar m s).2.trace = s.trace := (readFar_frame m s).trace
@[simp] theorem readFar_mem (m : MemRef) (s : State) : (readFar m s).2.mem = s.mem := (readFar_frame m s).mem
@[simp] theorem readFar_reg16 (m : MemRef) (r' : Reg16) (s : State) : (readFar m s).2.reg16 r' = s.reg16 r' := by
  cases r' <;> simp [State.reg16]
@[simp] theorem readFar_reg8 (m : MemRef) (r' : Reg8) (s : State) : (readFar m s).2.reg8 r' = s.reg8 r' := by
  simp [State.reg8]
@[simp] theorem readFar_sreg (m : MemRef) (j' : SReg) (s : State) : (readFar m s).2.sreg j' = s.sreg j' := by
  cases j' <;> simp [State.sreg]

/-! ### `setIrqLine` -/

@[simp] theorem setIrqLine_regs (line level : Nat) (s : State) : (setIrqLine line level s).regs = s.regs := (setIrqLine_frame line level s).regs
@[simp] theorem setIrqLine_segs (line level : Nat) (s : State) : (setIrqLine line level s).segs = s.segs := (setIrqLine_frame line level s).segs
@[simp] theorem setIrqLine_pc (line level : Nat) (s : State) : (setIrqLine line level s).pc = s.pc := (setIrqLine_frame line level s).pc
@[simp] theorem setIrqLine_flags (line level : Nat) (s : State) : (setIrqLine line level s).flags = s.flags := (setIrqLine_frame line level s).flags
@[simp] theorem setIrqLine_vector (line level : Nat) (s : State) : (setIrqLine line level s).vector = s.vector := (setIrqLine_frame line level s).vector
@[simp] theorem setIrqLine_halted (line level : Nat) (s : State) : (setIrqLine line level s).halted = s.halted := (setIrqLine_frame line level s).halted
@[simp] theorem setIrqLine_noint (line level : Nat) (s : State) : (setIrqLine line level s).noint = s.noint := (setIrqLine_frame line level s).noint
@[simp] theorem setIrqLine_segov (line level : Nat) (s : State) : (setIrqLine line level s).segov = s.segov := (setIrqLine_frame line level s).segov
@[simp] theorem setIrqLine_rep (line level : Nat) (s : State) : (setIrqLine line level s).rep = s.rep := (setIrqLine_frame line level s).rep
@[simp] theorem setIrqLine_map (line level : Nat) (s : State) : (setIrqLine line level s).map = s.map := (setIrqLine_frame line level s).map
@[simp] theorem setIrqLine_latchInt (line level : Nat) (s : State) : (setIrqLine line level s).latchInt = s.latchInt := (setIrqLine_frame line level s).latchInt
@[simp] theorem setIrqLine_latchNmi (line level : Nat) (s : State) : (setIrqLine line level s).latchNmi = s.latchNmi := (setIrqLine_frame line level s).latchNmi
@[simp] theorem setIrqLine_trace (line level : Nat) (s : State) : (setIrqLine line level s).trace = s.trace := (setIrqLine_frame line level s).trace
@[simp] theorem setIrqLine_mem (line level : Nat) (s : State) : (setIrqLine line level s).mem = s.mem := (setIrqLine_frame line level s).mem
@[simp] theorem setIrqLine_reg16 (line level : Nat) (r' : Reg16) (s : State) : (setIrqLine line level s).reg16 r' = s.reg16 r' := by
  cases r' <;> simp [State.reg16]
@[simp] theorem setIrqLine_reg8 (line level : Nat) (r' : Reg8) (s : State) : (setIrqLine line level s).reg8 r' = s.reg8 r' := by
  simp [State.reg8]
@[simp] theorem setIrqLine_sreg (line level : Nat) (j' : SReg) (s : State) : (setIrqLine line level s).sreg j' = s.sreg j' := by
  cases j' <;> simp [State.sreg]

/-! ### `write8` -/

@[simp] theorem write8_regs (a : Addr) (v : Byte) (s : State) : (write8 a v s).regs = s.regs := (write8_frame a v s).regs
@[simp] theorem write8_segs (a : Addr) (v : Byte) (s : State) : (write8 a v s).segs = s.segs := (write8_frame a v s).segs
@[simp] theorem write8_pc (a : Addr) (v : Byte) (s : State) : (write8 a v s).pc = s.pc := (write8_frame a v s).pc
@[simp] theorem write8_flags (a : Addr) (v : Byte) (s : State) : (write8 a v s).flags = s.flags := (write8_frame a v s).flags
@[simp] theorem write8_vector (a : Addr) (v : Byte) (s : State) : (write8 a v s).vector = s.vector := (write8_frame a v s).vector
@[simp] theorem write8_halted (a : Addr) (v : Byte) (s : State) : (write8 a v s).halted = s.halted := (write8_frame a v s).halted
@[simp] theorem write8_noint (a : Addr) (v : Byte) (s : State) : (write8 a v s).noint = s.noint := (write8_frame a v s).noint
@[simp] theorem write8_segov (a : Addr) (v : Byte) (s : State) : (write8 a v s).segov = s.segov := (write8_frame a v s).segov
@[simp] theorem write8_rep (a : Addr) (v : Byte) (s : State) : (write8 a v s).rep = s.rep := (write8_frame a v s).rep
@[simp] theorem write8_map (a : Addr) (v : Byte) (s : State) : (write8 a v s).map = s.map := (write8_frame a v s).map
@[simp] theorem write8_latchInt (a : Addr) (v : Byte) (s : State) : (write8 a v s).latchInt = s.latchInt := (write8_frame a v s).latchInt
@[simp] theorem write8_latchNmi (a : Addr) (v : Byte) (s : State) : (write8 a v s).latchNmi = s.latchNmi := (write8_frame a v s).latchNmi
@[simp] theorem write8_trace (a : Addr) (v : Byte) (s : State) : (write8 a v s).trace = s.trace := (write8_frame a v s).trace
@[simp] theorem write8_reg16 (a : Addr) (v : Byte) (r' : Reg16) (s : State) : (write8 a v s).reg16 r' = s.reg16 r' := by
  cases r' <;> simp [State.reg16]
@[simp] theorem write8_reg8 (a : Addr) (v : Byte) (r' : Reg8) (s : State) : (write8 a v s).reg8 r' = s.reg8 r' := by
  simp [State.reg8]
@[simp] theorem write8_sreg (a : Addr) (v : Byte) (j' : SReg) (s : State) : (write8 a v s).sreg j' = s.sreg j' := by
  cases j' <;> simp [State.sreg]

/-! ### `memWrite` -/

@[simp] theorem memWrite_regs (addr n v : Nat) (s : State) : (memWrite addr n v s).regs = s.regs := (memWrite_frame addr n v s).regs
@[simp] theorem memWrite_segs (addr n v : Nat) (s : State) : (memWrite addr n v s).segs = s.segs := (memWrite_frame addr n v s).segs
@[simp] theorem memWrite_pc (addr n v : Nat) (s : State) : (memWrite addr n v s).pc = s.pc := (memWrite_frame addr n v s).pc
@[simp] theorem memWrite_flags (addr n v : Nat) (s : State) : (memWrite addr n v s).flags = s.flags := (memWrite_frame addr n v s).flags
@[simp] theorem memWrite_vector (addr n v : Nat) (s : State) : (memWrite addr n v s).vector = s.vector := (memWrite_frame addr n v s).vector
@[simp] theorem memWrite_halted (addr n v : Nat) (s : State) : (memWrite addr n v s).halted = s.halted := (memWrite_frame addr n v s).halted
@[simp] theorem memWrite_noint (addr n v : Nat) (s : State) : (memWrite addr n v s).noint = s.noint := (memWrite_frame addr n v s).noint
@[simp] theorem memWrite_segov (addr n v : Nat) (s : State) : (memWrite addr n v s).segov = s.segov := (memWrite_frame addr n v s).segov
@[simp] theorem memWrite_rep (addr n v : Nat) (s : State) : (memWrite addr n v s).rep = s.rep := (memWrite_frame addr n v s).rep
@[simp] theorem memWrite_map (addr n v : Nat) (s : State) : (memWrite addr n v s).map = s.map := (memWrite_frame addr n v s).map
@[simp] theorem memWrite_latchInt (addr n v : Nat) (s : State) : (memWrite addr n v s).latchInt = s.latchInt := (memWrite_frame addr n v s).latchInt
@[simp] theorem memWrite_latchNmi (addr n v : Nat) (s : State) : (memWrite addr n v s).latchNmi = s.latchNmi := (memWrite_frame addr n v s).latchNmi
@[simp] theorem memWrite_trace (addr n v : Nat) (s : State) : (memWrite addr n v s).trace = s.trace := (memWrite_frame addr n v s).trace
@[simp] theorem memWrite_reg16 (addr n v : Nat) (r' : Reg16) (s : State) : (memWrite addr n v s).reg16 r' = s.reg16 r' := by
  cases r' <;> simp [State.reg16]
@[simp] theorem memWrite_reg8 (addr n v : Nat) (r' : Reg8) (s : State) : (memWrite addr n v s).reg8 r' = s.reg8 r' := by
  simp [State.reg8]
@[simp] theorem memWrite_sreg (addr n v : Nat) (j' : SReg) (s : State) : (memWrite addr n v s).sreg j' = s.sreg j' := by
  cases j' <;> simp [State.sreg]

/-! ### `segWrite8` -/

@[simp] theorem segWrite8_regs (j : SReg) (off : Word) (v : Byte) (s : State) : (segWrite8 j off v s).regs = s.regs := (segWrite8_frame j off v s).regs
@[simp] theorem segWrite8_segs (j : SReg) (off : Word) (v : Byte) (s : State) : (segWrite8 j off v s).segs = s.segs := (segWrite8_frame j off v s).segs
@[simp] theorem segWrite8_pc (j : SReg) (off : Word) (v : Byte) (s : State) : (segWrite8 j off v s).pc = s.pc := (segWrite8_frame j off v s).pc
@[simp] theorem segWrite8_flags (j : SReg) (off : Word) (v : Byte) (s : State) : (segWrite8 j off v s).flags = s.flags := (segWrite8_frame j off v s).flags
@[simp] theorem segWrite8_vector (j : SReg) (off : Word) (v : Byte) (s : State) : (segWrite8 j off v s).vector = s.vector := (segWrite8_frame j off v s).vector
@[simp] theorem segWrite8_halted (j : SReg) (off : Word) (v : Byte) (s : State) : (segWrite8 j off v s).halted = s.halted := (segWrite8_frame j off v s).halted
@[simp] theorem segWrite8_noint (j : SReg) (off : Word) (v : Byte) (s : State) : (segWrite8 j off v s).noint = s.noint := (segWrite8_frame j off v s).noint
@[simp] theorem segWrite8_segov (j : SReg) (off : Word) (v : Byte) (s : State) : (segWrite8 j off v s).segov = s.segov := (segWrite8_frame j off v s).segov
@[simp] theorem segWrite8_rep (j : SReg) (off : Word) (v : Byte) (s : State) : (segWrite8 j off v s).rep = s.rep := (segWrite8_frame j off v s).rep
@[simp] theorem segWrite8_map (j : SReg) (off : Word) (v : Byte) (s : State) : (segWrite8 j off v s).map = s.map := (segWrite8_frame j off v s).map
@[simp] theorem segWrite8_latchInt (j : SReg) (off : Word) (v : Byte) (s : State) : (segWrite8 j off v s).latchInt = s.latchInt := (segWrite8_frame j off v s).latchInt
@[simp] theorem segWrite8_latchNmi (j : SReg) (off : Word) (v : Byte) (s : State) : (segWrite8 j off v s).latchNmi = s.latchNmi := (segWrite8_frame j off v s).latchNmi
@[simp] theorem segWrite8_trace (j : SReg) (off : Word) (v : Byte) (s : State) : (segWrite8 j off v s).trace = s.trace := (segWrite8_frame j off v s).trace
@[simp] theorem segWrite8_reg16 (j : SReg) (off : Word) (v : Byte) (r' : Reg16) (s : State) : (segWrite8 j off v s).reg16 r' = s.reg16 r' := by
  cases r' <;> simp [State.reg16]
@[simp] theorem segWrite8_reg8 (j : SReg) (off : Word) (v : Byte) (r' : Reg8) (s : State) : (segWrite8 j off v s).reg8 r' = s.reg8 r' := by
  simp [State.reg8]
@[simp] theorem segWrite8_sreg (j : SReg) (off : Word) (v : Byte) (j' : SReg) (s : State) : (segWrite8 j off v s).sreg j' = s.sreg j' := by
  cases j' <;> simp [State.sreg]

/-! ### `segWrite16` -/

@[simp] theorem segWrite16_regs (j : SReg) (off v : Word) (s : State) : (segWrite16 j off v s).regs = s.regs := (segWrite16_frame j off v s).regs
@[simp] theorem segWrite16_segs (j : SReg) (off v : Word) (s : State) : (segWrite16 j off v s).segs = s.segs := (segWrite16_frame j off v s).segs
@[simp] theorem segWrite16_pc (j : SReg) (off v : Word) (s : State) : (segWrite16 j off v s).pc = s.pc := (segWrite16_frame j off v s).pc
@[simp] theorem segWrite16_flags (j : SReg) (off v : Word) (s : State) : (segWrite16 j off v s).flags = s.flags := (segWrite16_frame j off v s).flags
@[simp] theorem segWrite16_vector (j : SReg) (off v : Word) (s : State) : (segWrite16 j off v s).vector = s.vector := (segWrite16_frame j off v s).vector
@[simp] theorem segWrite16_halted (j : SReg) (off v : Word) (s : State) : (segWrite16 j off v s).halted = s.halted := (segWrite16_frame j off v s).halted
@[simp] theorem segWrite16_noint (j : SReg) (off v : Word) (s : State) : (segWrite16 j off v s).noint = s.noint := (segWrite16_frame j off v s).noint
@[simp] theorem segWrite16_segov (j : SReg) (off v : Word) (s : State) : (segWrite16 j off v s).segov = s.segov := (segWrite16_frame j off v s).segov
@[simp] theorem segWrite16_rep (j : SReg) (off v : Word) (s : State) : (segWrite16 j off v s).rep = s.rep := (segWrite16_frame j off v s).rep
@[simp] theorem segWrite16_map (j : SReg) (off v : Word) (s : State) : (segWrite16 j off v s).map = s.map := (segWrite16_frame j off v s).map
@[simp] theorem segWrite16_latchInt (j : SReg) (off v : Word) (s : State) : (segWrite16 j off v s).latchInt = s.latchInt := (segWrite16_frame j off v s).latchInt
@[simp] theorem segWrite16_latchNmi (j : SReg) (off v : Word) (s : State) : (segWrite16 j off v s).latchNmi = s.latchNmi := (segWrite16_frame j off v s).latchNmi
@[simp] theorem segWrite16_trace (j : SReg) (off v : Word) (s : State) : (segWrite16 j off v s).trace = s.trace := (segWrite16_frame j off v s).trace
@[simp] theorem segWrite16_reg16 (j : SReg) (off v : Word) (r' : Reg16) (s : State) : (segWrite16 j off v s).reg16 r' = s.reg16 r' := by
  cases r' <;> simp [State.reg16]
@[simp] theorem segWrite16_reg8 (j : SReg) (off v : Word) (r' : Reg8) (s : State) : (segWrite16 j off v s).reg8 r' = s.reg8 r' := by
  simp [State.reg8]
@[simp] theorem segWrite16_sreg (j : SReg) (off v : Word) (j' : SReg) (s : State) : (segWrite16 j off v s).sreg j' = s.sreg j' := by
  cases j' <;> simp [State.sreg]

end Sys2Proof.Laws
end

