-- ==== Sys2Proof/Laws/Bits.lean ====
section
/-! SUPPORT. Bytes of a word and fields of a ModRM byte, put together and taken apart. -/

namespace Sys2Proof.Laws

open Sys2Proof

/-- The bytes of a word as numbers (20_memory R60: the byte at the lower address is the less significant). -/
theorem wordOf_toNat (lo hi : Byte) : (wordOf lo hi).toNat = lo.toNat + 256 * hi.toNat := by
  have h : lo.toNat < 2 ^ 8 := lo.isLt
  have e : (wordOf lo hi).toNat = hi.toNat <<< 8 ||| lo.toNat := BitVec.toNat_append hi lo
  rw [e, ← Nat.shiftLeft_add_eq_or_of_lt h, Nat.shiftLeft_eq]
  omega

theorem loByte_toNat (v : Word) : (loByte v).toNat = v.toNat % 256 := by
  simp [loByte, BitVec.extractLsb'_toNat]

theorem hiByte_toNat (v : Word) : (hiByte v).toNat = v.toNat / 256 := by
  have h : v.toNat < 65536 := v.isLt
  simp only [hiByte, BitVec.extractLsb'_toNat, Nat.shiftRight_eq_div_pow]
  omega

@[simp] theorem loByte_wordOf (lo hi : Byte) : loByte (wordOf lo hi) = lo := by
  have h : lo.toNat < 256 := lo.isLt
  apply BitVec.eq_of_toNat_eq
  rw [loByte_toNat, wordOf_toNat]
  omega

@[simp] theorem hiByte_wordOf (lo hi : Byte) : hiByte (wordOf lo hi) = hi := by
  have h : lo.toNat < 256 := lo.isLt
  apply BitVec.eq_of_toNat_eq
  rw [hiByte_toNat, wordOf_toNat]
  omega

@[simp] theorem wordOf_bytes (v : Word) : wordOf (loByte v) (hiByte v) = v := by
  apply BitVec.eq_of_toNat_eq
  rw [wordOf_toNat, loByte_toNat, hiByte_toNat]
  omega

@[simp] theorem modField_modrmByte (m : BitVec 2) (reg rm : BitVec 3) : modField (modrmByte m reg rm) = m := by
  revert m reg rm
  decide +kernel

@[simp] theorem regField_modrmByte (m : BitVec 2) (reg rm : BitVec 3) : regField (modrmByte m reg rm) = reg := by
  revert m reg rm
  decide +kernel

@[simp] theorem rmField_modrmByte (m : BitVec 2) (reg rm : BitVec 3) : rmField (modrmByte m reg rm) = rm := by
  revert m reg rm
  decide +kernel

end Sys2Proof.Laws
end

