-- ==== Sys2Proof/Laws/Decode.lean ====
section
/-! SUPPORT. The parts of an encoding read back: register numbers, words, ModRM operands (30_encoding R96 to R100), and how
the decoder goes on from an opcode byte. -/

namespace Sys2Proof.Laws

open Sys2Proof

@[simp] theorem reg16_ofNum_num (r : Reg16) : Reg16.ofNum r.num = r := by cases r <;> rfl
@[simp] theorem reg8_ofNum_num (r : Reg8) : Reg8.ofNum r.num = r := by cases r <;> rfl
@[simp] theorem base_ofNum_num (b : Base) : Base.ofNum b.num = b := by cases b <;> rfl
@[simp] theorem sreg_ofNum_num (j : SReg) : SReg.ofNum? j.num = some j := by cases j <;> rfl

@[simp] theorem reg16_num_ofNum (n : BitVec 3) : (Reg16.ofNum n).num = n := by
  revert n
  decide +kernel
@[simp] theorem reg8_num_ofNum (n : BitVec 3) : (Reg8.ofNum n).num = n := by
  revert n
  decide +kernel
@[simp] theorem base_num_ofNum (n : BitVec 3) : (Base.ofNum n).num = n := by
  revert n
  decide +kernel

/-- Only `bp` has the `rm` value that `mod = 0` gives to the direct form (30_encoding R96). -/
theorem base_num_eq_six (b : Base) : b.num = 6 ↔ b = .bp := by cases b <;> decide

/-- A ModRM byte is made of its three fields (30_encoding R95). -/
@[simp] theorem modrmByte_fields (m : Byte) : modrmByte (modField m) (regField m) (rmField m) = m := by
  revert m
  decide +kernel

@[simp] theorem takeByte_cons (b : Byte) (rest : List Byte) : takeByte (b :: rest) = .got b rest := rfl

@[simp] theorem takeWord_cons (lo hi : Byte) (rest : List Byte) : takeWord (lo :: hi :: rest) = .got (wordOf lo hi) rest := rfl

/-- A word written is read back (20_memory R60). -/
@[simp] theorem takeWord_wordBytes (v : Word) (rest : List Byte) : takeWord (wordBytes v ++ rest) = .got v rest := by
  simp [wordBytes]

@[simp] theorem andThen_got {α β : Type} (a : α) (rest : List Byte) (f : α → List Byte → Parse β) :
    (Parse.got a rest).andThen f = f a rest := rfl

@[simp] theorem wrap_got {α β : Type} (a : α) (rest : List Byte) (f : α → β) : (Parse.got a rest).wrap f = .got (f a) rest :=
  rfl

/-- What reading and going on gave came from what was read. -/
theorem andThen_eq_got {α β : Type} {p : Parse α} {f : α → List Byte → Parse β} {b : β} {rest : List Byte}
    (h : p.andThen f = .got b rest) : ∃ a mid, p = .got a mid ∧ f a mid = .got b rest := by
  cases p with
  | more => cases h
  | illegal => cases h
  | got a mid => exact ⟨a, mid, rfl, h⟩

/-- A memory operand written with any `reg` field is read back, and its ModRM byte has that field (30_encoding R96, R97). -/
theorem takeMem_encodeMem (reg : BitVec 3) {m : MemRef} (h : m.wf = true) (rest : List Byte) :
    ∃ b tail, encodeMem reg m = b :: tail ∧ modField b ≠ 3 ∧ regField b = reg ∧ takeMem b (tail ++ rest) = .got m rest := by
  cases m with
  | plain b =>
    have hb : ¬ b.num = 6#3 := fun e => by
      rw [(base_num_eq_six b).mp e] at h
      cases h
    exact ⟨_, _, rfl, by simp, by simp, by simp [takeMem, hb]⟩
  | direct d => exact ⟨_, _, rfl, by simp, by simp, by simp [takeMem]⟩
  | disp8 b d => exact ⟨_, _, rfl, by simp, by simp, by simp [takeMem]⟩
  | disp16 b d => exact ⟨_, _, rfl, by simp, by simp, by simp [takeMem]⟩

/-- An `Eb` operand written is read back (30_encoding R96, R97, R99). -/
theorem takeRm8_encodeRm8 (reg : BitVec 3) {rm : Rm8} (h : rm.wf = true) (rest : List Byte) :
    ∃ b tail, encodeRm8 reg rm = b :: tail ∧ regField b = reg ∧ takeRm8 b (tail ++ rest) = .got rm rest := by
  cases rm with
  | reg r => exact ⟨_, _, rfl, by simp, by simp [takeRm8]⟩
  | mem m =>
    obtain ⟨b, tail, e, hm, hr, ht⟩ := takeMem_encodeMem reg (m := m) h rest
    exact ⟨b, tail, e, hr, by rw [takeRm8, if_neg hm, ht]; rfl⟩

/-- An `Ew` operand written is read back (30_encoding R96, R97, R99). -/
theorem takeRm16_encodeRm16 (reg : BitVec 3) {rm : Rm16} (h : rm.wf = true) (rest : List Byte) :
    ∃ b tail, encodeRm16 reg rm = b :: tail ∧ regField b = reg ∧ takeRm16 b (tail ++ rest) = .got rm rest := by
  cases rm with
  | reg r => exact ⟨_, _, rfl, by simp, by simp [takeRm16]⟩
  | mem m =>
    obtain ⟨b, tail, e, hm, hr, ht⟩ := takeMem_encodeMem reg (m := m) h rest
    exact ⟨b, tail, e, hr, by rw [takeRm16, if_neg hm, ht]; rfl⟩

/-- What is read as a memory operand is its encoding, with the `reg` field of the ModRM byte, and it is well formed. -/
theorem takeMem_eq_got {b : Byte} {bytes rest : List Byte} {m : MemRef} (hb : modField b ≠ 3)
    (h : takeMem b bytes = .got m rest) : m.wf = true ∧ b :: bytes = encodeMem (regField b) m ++ rest := by
  have hf := modrmByte_fields b
  have hcases : modField b = 0 ∨ modField b = 1 ∨ modField b = 2 ∨ modField b = 3 := by
    generalize modField b = x
    revert x
    decide
  rcases hcases with e | e | e | e
  · rw [e] at hf
    by_cases h6 : rmField b = 6
    · match bytes with
      | [] => simp [takeMem, e, h6, takeWord, Parse.wrap, Parse.andThen] at h
      | [_] => simp [takeMem, e, h6, takeWord, Parse.wrap, Parse.andThen] at h
      | lo :: hi :: tl =>
        simp [takeMem, e, h6] at h
        obtain ⟨rfl, rfl⟩ := h
        rw [h6] at hf
        simp only [MemRef.wf, encodeMem, wordBytes, loByte_wordOf, hiByte_wordOf, List.cons_append, List.nil_append, true_and]
        exact congrArg (· :: lo :: hi :: tl) hf.symm
    · have h : Parse.got (.plain (Base.ofNum (rmField b))) bytes = .got m rest := by
        rw [← h]
        simp only [takeMem, e]
        exact (if_neg h6).symm
      cases h
      have : Base.ofNum (rmField b) ≠ .bp := fun k => h6 (by
        rw [← base_num_ofNum (rmField b), k]; rfl)
      simp only [MemRef.wf, encodeMem, base_num_ofNum, List.cons_append, List.nil_append, bne_iff_ne]
      exact ⟨this, congrArg (· :: bytes) hf.symm⟩
  · rw [e] at hf
    match bytes with
    | [] => simp [takeMem, e, takeByte, Parse.wrap, Parse.andThen] at h
    | d :: tl =>
      simp [takeMem, e] at h
      obtain ⟨rfl, rfl⟩ := h
      simp only [MemRef.wf, encodeMem, base_num_ofNum, List.cons_append, List.nil_append, true_and]
      exact congrArg (· :: d :: tl) hf.symm
  · rw [e] at hf
    match bytes with
    | [] => simp [takeMem, e, takeWord, Parse.wrap, Parse.andThen] at h
    | [_] => simp [takeMem, e, takeWord, Parse.wrap, Parse.andThen] at h
    | lo :: hi :: tl =>
      simp [takeMem, e] at h
      obtain ⟨rfl, rfl⟩ := h
      simp only [MemRef.wf, encodeMem, wordBytes, base_num_ofNum, loByte_wordOf, hiByte_wordOf, List.cons_append,
        List.nil_append, true_and]
      exact congrArg (· :: lo :: hi :: tl) hf.symm
  · exact absurd e hb

theorem takeRm8_eq_got {b : Byte} {bytes rest : List Byte} {rm : Rm8} (h : takeRm8 b bytes = .got rm rest) :
    rm.wf = true ∧ b :: bytes = encodeRm8 (regField b) rm ++ rest := by
  have hf := modrmByte_fields b
  by_cases hb : modField b = 3
  · simp [takeRm8, hb] at h
    obtain ⟨rfl, rfl⟩ := h
    rw [hb] at hf
    simp only [Rm8.wf, encodeRm8, reg8_num_ofNum, List.cons_append, List.nil_append, true_and]
    exact congrArg (· :: bytes) hf.symm
  · simp only [takeRm8, hb, ↓reduceIte] at h
    obtain ⟨m, mid, hm, e⟩ := andThen_eq_got h
    cases e
    exact takeMem_eq_got hb hm

theorem takeRm16_eq_got {b : Byte} {bytes rest : List Byte} {rm : Rm16} (h : takeRm16 b bytes = .got rm rest) :
    rm.wf = true ∧ b :: bytes = encodeRm16 (regField b) rm ++ rest := by
  have hf := modrmByte_fields b
  by_cases hb : modField b = 3
  · simp [takeRm16, hb] at h
    obtain ⟨rfl, rfl⟩ := h
    rw [hb] at hf
    simp only [Rm16.wf, encodeRm16, reg16_num_ofNum, List.cons_append, List.nil_append, true_and]
    exact congrArg (· :: bytes) hf.symm
  · simp only [takeRm16, hb, ↓reduceIte] at h
    obtain ⟨m, mid, hm, e⟩ := andThen_eq_got h
    cases e
    exact takeMem_eq_got hb hm

/-- An opcode byte read: what follows is read by its form (30_encoding R102). -/
@[simp] theorem decodeItem_cons (op : Byte) (rest : List Byte) : decodeItem (op :: rest) = decodeForm (opcodeForm op) rest := rfl

/-- A ModRM form: the ModRM byte is read, then its operand. -/
theorem decodeForm_modrm (f : BitVec 3 → Bool → ModForm) (m : Byte) (rest : List Byte) :
    decodeForm (.modrm f) (m :: rest) = decodeMod (f (regField m) (modField m == 3)) m rest := rfl

end Sys2Proof.Laws
end

