-- ==== Sys2Proof/Laws/Flags.lean ====
section
/-! SUPPORT. The flags word read after each flag update, bit by bit, and its fixed bits (10_state R26, R27). -/

namespace Sys2Proof.Laws

open Sys2Proof Sys2Proof.Machine

/-- The bit of a flag is below 16. -/
theorem flagBit_lt (x : Flag) : flagBit x < 16 := by cases x <;> decide

/-- Two flags have two bits. -/
theorem flagBit_inj {x y : Flag} (h : flagBit x = flagBit y) : x = y := by
  cases x <;> cases y <;> first | rfl | (exact absurd h (by decide))

/-- The bits of a flag's mask. -/
theorem flagMask_getLsbD (x : Flag) (n : Nat) : (flagMask x).getLsbD n = decide (n = flagBit x) := by
  have hx := flagBit_lt x
  rw [flagMask, BitVec.getLsbD_ofNat, Nat.testBit_two_pow, Bool.eq_iff_iff]
  simp only [Bool.and_eq_true, decide_eq_true_eq]
  omega

/-- Every bit of the flags word after a flag is written. -/
theorem putFlag_getLsbD (x : Flag) (b : Bool) (f : Word) (n : Nat) :
    (putFlag x b f).getLsbD n = if n = flagBit x then b else f.getLsbD n := by
  have hx := flagBit_lt x
  by_cases hn : n = flagBit x
  · subst hn
    cases b <;> simp only [putFlag, Bool.false_eq_true, ↓reduceIte, BitVec.getLsbD_and, BitVec.getLsbD_or,
      BitVec.getLsbD_not, flagMask_getLsbD, decide_true, Bool.not_true, Bool.and_false, Bool.or_true]
  · cases b
    · by_cases hlt : n < 16
      · simp only [putFlag, Bool.false_eq_true, ↓reduceIte, BitVec.getLsbD_and, BitVec.getLsbD_not, flagMask_getLsbD,
          hn, hlt, decide_true, decide_false, Bool.not_false, Bool.and_true]
      · rw [BitVec.getLsbD_of_ge _ n (by omega), BitVec.getLsbD_of_ge f n (by omega), if_neg hn]
    · simp only [putFlag, ↓reduceIte, BitVec.getLsbD_or, flagMask_getLsbD, hn, decide_false, Bool.or_false]

/-- A flag read after a flag is written. -/
@[simp] theorem getFlag_putFlag (x y : Flag) (b : Bool) (f : Word) :
    getFlag y (putFlag x b f) = if y = x then b else getFlag y f := by
  simp only [getFlag, putFlag_getLsbD]
  by_cases h : y = x
  · simp [h]
  · have : flagBit y ≠ flagBit x := fun e => h (flagBit_inj e)
    simp [h, this]

/-- The fixed bits, bit by bit. -/
theorem flagsFixed_iff (f : Word) : FlagsFixed f ↔
    f.getLsbD 1 = true ∧ f.getLsbD 3 = false ∧ f.getLsbD 5 = false ∧ f.getLsbD 12 = true ∧
      f.getLsbD 13 = true ∧ f.getLsbD 14 = true ∧ f.getLsbD 15 = true := by
  have hm : ∀ n, n < 16 → (0xF02A#16).getLsbD n = decide (n ∈ [1, 3, 5, 12, 13, 14, 15]) := by decide
  have hv : ∀ n, n < 16 → (0xF002#16).getLsbD n = decide (n ∈ [1, 12, 13, 14, 15]) := by decide
  have bit : FlagsFixed f ↔ ∀ n, n < 16 →
      (f.getLsbD n && decide (n ∈ [1, 3, 5, 12, 13, 14, 15])) = decide (n ∈ [1, 12, 13, 14, 15]) := by
    constructor
    · intro h n hn
      have e := congrArg (fun v : Word => v.getLsbD n) h
      simp only [BitVec.getLsbD_and] at e
      rwa [hm n hn, hv n hn] at e
    · intro h
      apply BitVec.eq_of_getLsbD_eq
      intro n hn
      rw [BitVec.getLsbD_and, hm n hn, hv n hn, h n hn]
  rw [bit]
  constructor
  · intro h
    have h1 := h 1 (by decide); have h3 := h 3 (by decide); have h5 := h 5 (by decide)
    have h12 := h 12 (by decide); have h13 := h 13 (by decide); have h14 := h 14 (by decide)
    have h15 := h 15 (by decide)
    simp only [List.mem_cons, List.not_mem_nil, decide_true, decide_false, Bool.and_true, or_true, or_false,
      Nat.reduceEqDiff, OfNat.ofNat_ne_one, OfNat.one_ne_ofNat] at h1 h3 h5 h12 h13 h14 h15
    exact ⟨h1, h3, h5, h12, h13, h14, h15⟩
  · rintro ⟨h1, h3, h5, h12, h13, h14, h15⟩ n hn
    interval_cases n <;> first
      | rw [h1]; rfl
      | rw [h3]; rfl
      | rw [h5]; rfl
      | rw [h12]; rfl
      | rw [h13]; rfl
      | rw [h14]; rfl
      | rw [h15]; rfl
      | exact Bool.and_false _

/-- Writing a flag keeps the fixed bits. -/
theorem flagsFixed_putFlag (x : Flag) (b : Bool) {f : Word} (h : FlagsFixed f) : FlagsFixed (putFlag x b f) := by
  rw [flagsFixed_iff] at h ⊢
  simp only [putFlag_getLsbD]
  cases x <;> simpa [flagBit] using h

/-- A write of the whole word forces the fixed bits (10_state R27). -/
theorem flagsFixed_wholeFlags (v : Word) : FlagsFixed (wholeFlags v) := by
  rw [flagsFixed_iff]
  simp [wholeFlags]

/-- A write of the whole word takes the nine named flags from the value (10_state R27). -/
@[simp] theorem getFlag_wholeFlags (x : Flag) (v : Word) : getFlag x (wholeFlags v) = getFlag x v := by
  cases x <;> simp [getFlag, wholeFlags, flagBit]

/-- A word with its fixed bits is written whole as it is. -/
theorem wholeFlags_of_fixed {f : Word} (h : FlagsFixed f) : wholeFlags f = f := by
  rw [flagsFixed_iff] at h
  obtain ⟨h1, h3, h5, h12, h13, h14, h15⟩ := h
  apply BitVec.eq_of_getLsbD_eq
  intro n hn
  interval_cases n <;> simp_all [wholeFlags]

/-- Every bit of the flags word after SAHF (40_data_transfer R157). -/
theorem sahfFlags_getLsbD (ah : Byte) (f : Word) (n : Nat) (hn : n < 16) :
    (sahfFlags ah f).getLsbD n =
      if n = 7 ∨ n = 6 ∨ n = 4 ∨ n = 2 ∨ n = 0 then ah.getLsbD n
      else if n < 8 then decide (n = 1) else f.getLsbD n := by
  interval_cases n <;> simp [sahfFlags, zext16]

/-- SAHF keeps the fixed bits. -/
theorem flagsFixed_sahfFlags (ah : Byte) {f : Word} (h : FlagsFixed f) : FlagsFixed (sahfFlags ah f) := by
  rw [flagsFixed_iff] at h ⊢
  obtain ⟨-, -, -, h12, h13, h14, h15⟩ := h
  simpa [sahfFlags, zext16] using ⟨h12, h13, h14, h15⟩

/-- A flag after SAHF. -/
@[simp] theorem getFlag_sahfFlags (x : Flag) (ah : Byte) (f : Word) :
    getFlag x (sahfFlags ah f) = match x with
      | .SF => ah.getLsbD 7
      | .ZF => ah.getLsbD 6
      | .AF => ah.getLsbD 4
      | .PF => ah.getLsbD 2
      | .CF => ah.getLsbD 0
      | .TF => getFlag .TF f
      | .IF => getFlag .IF f
      | .DF => getFlag .DF f
      | .OF => getFlag .OF f := by
  cases x <;> simp [getFlag, flagBit, sahfFlags, zext16]

theorem flagsFixed_szpFlags {w : Nat} (r : BitVec w) {f : Word} (h : FlagsFixed f) : FlagsFixed (szpFlags r f) :=
  flagsFixed_putFlag _ _ (flagsFixed_putFlag _ _ (flagsFixed_putFlag _ _ h))

theorem flagsFixed_addOp {w : Nat} (a b : BitVec w) (cin : Bool) {f : Word} (h : FlagsFixed f) :
    FlagsFixed (addOp a b cin f).2 :=
  flagsFixed_szpFlags _ (flagsFixed_putFlag _ _ (flagsFixed_putFlag _ _ (flagsFixed_putFlag _ _ h)))

theorem flagsFixed_subOp {w : Nat} (a b : BitVec w) (bin : Bool) {f : Word} (h : FlagsFixed f) :
    FlagsFixed (subOp a b bin f).2 :=
  flagsFixed_szpFlags _ (flagsFixed_putFlag _ _ (flagsFixed_putFlag _ _ (flagsFixed_putFlag _ _ h)))

theorem flagsFixed_logicFlags {w : Nat} (r : BitVec w) {f : Word} (h : FlagsFixed f) : FlagsFixed (logicFlags r f) :=
  flagsFixed_szpFlags _ (flagsFixed_putFlag _ _ (flagsFixed_putFlag _ _ (flagsFixed_putFlag _ _ h)))

theorem flagsFixed_aluOp {w : Nat} (op : AluOp) (a b : BitVec w) {f : Word} (h : FlagsFixed f) :
    FlagsFixed (aluOp op a b f).2 := by
  cases op with
  | add => exact flagsFixed_addOp a b false h
  | or => exact flagsFixed_logicFlags (a ||| b) h
  | adc => exact flagsFixed_addOp a b (getFlag .CF f) h
  | sbb => exact flagsFixed_subOp a b (getFlag .CF f) h
  | and => exact flagsFixed_logicFlags (a &&& b) h
  | sub => exact flagsFixed_subOp a b false h
  | xor => exact flagsFixed_logicFlags (a ^^^ b) h
  | cmp => exact flagsFixed_subOp a b false h

theorem flagsFixed_incOp {w : Nat} (a : BitVec w) {f : Word} (h : FlagsFixed f) : FlagsFixed (incOp a f).2 :=
  flagsFixed_putFlag _ _ (flagsFixed_addOp _ _ _ h)

theorem flagsFixed_decOp {w : Nat} (a : BitVec w) {f : Word} (h : FlagsFixed f) : FlagsFixed (decOp a f).2 :=
  flagsFixed_putFlag _ _ (flagsFixed_subOp _ _ _ h)

theorem flagsFixed_negOp {w : Nat} (a : BitVec w) {f : Word} (h : FlagsFixed f) : FlagsFixed (negOp a f).2 :=
  flagsFixed_subOp _ _ _ h

theorem flagsFixed_shiftFlags {w : Nat} (op : ShiftOp) (v : BitVec w) (cf : Bool) {f : Word} (h : FlagsFixed f) :
    FlagsFixed (shiftFlags op v cf f) := by
  have h1 := flagsFixed_putFlag .OF (shiftOverflow op v cf) (flagsFixed_putFlag .CF cf h)
  unfold shiftFlags
  split
  · exact flagsFixed_szpFlags _ h1
  · exact h1

/-! Which flags each computation leaves alone (10_state R28). -/

theorem getFlag_szpFlags {w : Nat} (r : BitVec w) (f : Word) (x : Flag) :
    getFlag x (szpFlags r f) = match x with
      | .SF => r.msb
      | .ZF => r == 0#w
      | .PF => evenOnes (r.setWidth 8)
      | y => getFlag y f := by
  cases x <;> simp [szpFlags]

theorem getFlag_addOp {w : Nat} (a b : BitVec w) (cin : Bool) (f : Word) (x : Flag) :
    getFlag x (addOp a b cin f).2 = match x with
      | .CF => decide (2 ^ w ≤ a.toNat + b.toNat + cin.toNat)
      | .OF => ((a ^^^ (addOp a b cin f).1) &&& (b ^^^ (addOp a b cin f).1)).msb
      | .AF => (a ^^^ b ^^^ (addOp a b cin f).1).getLsbD 4
      | .SF => (addOp a b cin f).1.msb
      | .ZF => (addOp a b cin f).1 == 0#w
      | .PF => evenOnes ((addOp a b cin f).1.setWidth 8)
      | y => getFlag y f := by
  cases x <;> simp [addOp, getFlag_szpFlags]

theorem getFlag_subOp {w : Nat} (a b : BitVec w) (bin : Bool) (f : Word) (x : Flag) :
    getFlag x (subOp a b bin f).2 = match x with
      | .CF => decide ((a.toNat : Int) - b.toNat - bin.toNat < 0)
      | .OF => ((a ^^^ b) &&& (a ^^^ (subOp a b bin f).1)).msb
      | .AF => (a ^^^ b ^^^ (subOp a b bin f).1).getLsbD 4
      | .SF => (subOp a b bin f).1.msb
      | .ZF => (subOp a b bin f).1 == 0#w
      | .PF => evenOnes ((subOp a b bin f).1.setWidth 8)
      | y => getFlag y f := by
  cases x <;> simp [subOp, getFlag_szpFlags]

theorem getFlag_logicFlags {w : Nat} (r : BitVec w) (f : Word) (x : Flag) :
    getFlag x (logicFlags r f) = match x with
      | .CF => false
      | .OF => false
      | .AF => false
      | .SF => r.msb
      | .ZF => r == 0#w
      | .PF => evenOnes (r.setWidth 8)
      | y => getFlag y f := by
  cases x <;> simp [logicFlags, getFlag_szpFlags]

theorem getFlag_shiftFlags {w : Nat} (op : ShiftOp) (v : BitVec w) (cf : Bool) (f : Word) (x : Flag) :
    getFlag x (shiftFlags op v cf f) = match x with
      | .CF => cf
      | .OF => shiftOverflow op v cf
      | .SF => if shiftSetsSzp op then v.msb else getFlag .SF f
      | .ZF => if shiftSetsSzp op then v == 0#w else getFlag .ZF f
      | .PF => if shiftSetsSzp op then evenOnes (v.setWidth 8) else getFlag .PF f
      | y => getFlag y f := by
  cases x <;> cases op <;> simp [shiftFlags, getFlag_szpFlags, shiftSetsSzp]

end Sys2Proof.Laws
end

