-- ==== Sys2Proof/Laws/Router.lean ====
section
/-! SUPPORT. What a byte access does, in terms of the store cells the address selects (20_memory R53 to R56): a read off
the devices returns the cell's byte and changes nothing; a write changes at most the one cell of `writeCell`. -/

namespace Sys2Proof.Laws

open Sys2Proof Sys2Proof.Machine

/-- A cell that is written is the cell a read of the same address returns. -/
theorem readCell_of_writeCell {map : List Region} {a : Addr} {k : Nat} (h : writeCell map a = some k) :
    readCell map a = some k := by
  cases hs : select map a with
  | none => simp [writeCell, hs] at h
  | some d => cases ht : d.target <;> simp_all [writeCell, readCell]

/-- An address that selects RAM is no device. -/
theorem not_isDevice_of_writeCell {map : List Region} {a : Addr} {k : Nat} (h : writeCell map a = some k) :
    isDevice map a = false := by
  cases hs : select map a with
  | none => simp [writeCell, hs] at h
  | some d => cases ht : d.target <;> simp_all [writeCell, isDevice]

/-- A read off the devices: the cell's byte, no state change (20_memory R55, R56). -/
theorem read8_of_not_isDevice {a : Addr} {s : State} (h : isDevice s.map a = false) : read8 a s = (peek8 a s, s) := by
  cases hs : select s.map a with
  | none => simp [read8, peek8, readCell, hs]
  | some d => cases ht : d.target <;> simp_all [read8, peek8, readCell, isDevice]

/-- A write off the devices: the cell of RAM, or nothing (20_memory R55, R56). -/
theorem write8_of_not_isDevice {a : Addr} (v : Byte) {s : State} (h : isDevice s.map a = false) :
    write8 a v s = match writeCell s.map a with
      | some k => { s with mem := Memory.set s.mem k v }
      | none => s := by
  cases hs : select s.map a with
  | none => simp [write8, writeCell, hs]
  | some d => cases ht : d.target <;> simp_all [write8, writeCell, isDevice]

/-- The stores after any byte write: at most the cell of `writeCell` is set. -/
theorem write8_mem (a : Addr) (v : Byte) (s : State) :
    (write8 a v s).mem = match writeCell s.map a with
      | some k => Memory.set s.mem k v
      | none => s.mem := by
  cases hs : select s.map a with
  | none => simp [write8, writeCell, hs]
  | some d =>
    cases ht : d.target with
    | ram n => simp [write8, writeCell, hs, ht]
    | rom n => simp [write8, writeCell, hs, ht]
    | handler dev canRead canWrite =>
      simp only [write8, writeCell, hs, ht]
      split
      · exact (callDevice_frame _ s).mem
      · rfl

/-- A byte write keeps the canonical form. -/
theorem write8_mem_wf (a : Addr) (v : Byte) {s : State} (h : Memory.wf s.mem = true) :
    Memory.wf (write8 a v s).mem = true := by
  rw [write8_mem]
  split
  · exact set_wf _ _ h
  · exact h

theorem memWrite_mem_wf (addr n v : Nat) {s : State} (h : Memory.wf s.mem = true) :
    Memory.wf (memWrite addr n v s).mem = true := by
  induction n generalizing addr v s with
  | zero => exact h
  | succ n ih => exact ih _ _ (write8_mem_wf _ _ h)

theorem segWrite8_mem_wf (j : SReg) (off : Word) (v : Byte) {s : State} (h : Memory.wf s.mem = true) :
    Memory.wf (segWrite8 j off v s).mem = true := write8_mem_wf _ _ h

theorem segWrite16_mem_wf (j : SReg) (off v : Word) {s : State} (h : Memory.wf s.mem = true) :
    Memory.wf (segWrite16 j off v s).mem = true := write8_mem_wf _ _ (write8_mem_wf _ _ h)

/-- A cell that a byte write does not address keeps its byte. -/
theorem write8_get_ne {a : Addr} {k : Nat} (v : Byte) {s : State} (h : writeCell s.map a ≠ some k) :
    Memory.get (write8 a v s).mem k = Memory.get s.mem k := by
  rw [write8_mem]
  split
  · rename_i c hc
    exact get_set_ne (fun e => h (by rw [hc, e])) v
  · rfl

/-- The cell a byte write addresses holds the byte (20_memory R56). -/
theorem write8_get {a : Addr} {k : Nat} (v : Byte) {s : State} (hw : Memory.wf s.mem = true)
    (h : writeCell s.map a = some k) : Memory.get (write8 a v s).mem k = v := by
  rw [write8_mem, h]
  simp [get_set hw]

/-- The two cells of a segmented word write keep every other cell. -/
theorem segWrite16_get_ne {j : SReg} {off : Word} {k : Nat} (v : Word) {s : State}
    (h0 : writeCell s.map (phys (s.sreg j) off) ≠ some k) (h1 : writeCell s.map (phys (s.sreg j) (off + 1)) ≠ some k) :
    Memory.get (segWrite16 j off v s).mem k = Memory.get s.mem k := by
  unfold segWrite16
  rw [write8_get_ne _ (by simpa using h1), write8_get_ne _ h0]

/-- `peek8` through any state with the same map and cell. -/
theorem peek8_congr {a : Addr} {s t : State} (hm : t.map = s.map)
    (hc : ∀ k, readCell s.map a = some k → Memory.get t.mem k = Memory.get s.mem k) : peek8 a t = peek8 a s := by
  unfold peek8
  rw [hm]
  split
  · rename_i k hk
    exact hc k hk
  · rfl

/-- `peek8` depends on MAP and the stores only. -/
theorem peek8_eq {a : Addr} {s t : State} (hm : t.map = s.map) (hc : t.mem = s.mem) : peek8 a t = peek8 a s :=
  peek8_congr hm fun _ _ => by rw [hc]

end Sys2Proof.Laws
end

