-- ==== Sys2Proof/Laws/Ops.lean ====
section
/-! SUPPORT. One lemma per field that a shared operation leaves alone, and the registers that the stack operations and the
trap entry write (40_data_transfer R146, R147; 60_exceptions R321; 41_arithmetic R173). -/

namespace Sys2Proof.Laws

open Sys2Proof Sys2Proof.Machine

/-! ### `push` -/

@[simp] theorem push_segs (v : Word) (s : State) : (push v s).segs = s.segs := by simp [push]
@[simp] theorem push_pc (v : Word) (s : State) : (push v s).pc = s.pc := by simp [push]
@[simp] theorem push_flags (v : Word) (s : State) : (push v s).flags = s.flags := by simp [push]
@[simp] theorem push_vector (v : Word) (s : State) : (push v s).vector = s.vector := by simp [push]
@[simp] theorem push_halted (v : Word) (s : State) : (push v s).halted = s.halted := by simp [push]
@[simp] theorem push_noint (v : Word) (s : State) : (push v s).noint = s.noint := by simp [push]
@[simp] theorem push_segov (v : Word) (s : State) : (push v s).segov = s.segov := by simp [push]
@[simp] theorem push_rep (v : Word) (s : State) : (push v s).rep = s.rep := by simp [push]
@[simp] theorem push_map (v : Word) (s : State) : (push v s).map = s.map := by simp [push]
@[simp] theorem push_latchInt (v : Word) (s : State) : (push v s).latchInt = s.latchInt := by simp [push]
@[simp] theorem push_latchNmi (v : Word) (s : State) : (push v s).latchNmi = s.latchNmi := by simp [push]
@[simp] theorem push_trace (v : Word) (s : State) : (push v s).trace = s.trace := by simp [push]
@[simp] theorem push_sreg (v : Word) (s : State) (j' : SReg) : (push v s).sreg j' = s.sreg j' := by
  cases j' <;> simp [State.sreg]

/-- The registers after a push: SP is 2 less (40_data_transfer R146). -/
@[simp] theorem push_regs (v : Word) (s : State) : (push v s).regs = { s.regs with sp := s.regs.sp - 2 } := by simp [push]

/-! ### `pushSp` -/

@[simp] theorem pushSp_segs (s : State) : (pushSp s).segs = s.segs := by simp [pushSp]
@[simp] theorem pushSp_pc (s : State) : (pushSp s).pc = s.pc := by simp [pushSp]
@[simp] theorem pushSp_flags (s : State) : (pushSp s).flags = s.flags := by simp [pushSp]
@[simp] theorem pushSp_vector (s : State) : (pushSp s).vector = s.vector := by simp [pushSp]
@[simp] theorem pushSp_halted (s : State) : (pushSp s).halted = s.halted := by simp [pushSp]
@[simp] theorem pushSp_noint (s : State) : (pushSp s).noint = s.noint := by simp [pushSp]
@[simp] theorem pushSp_segov (s : State) : (pushSp s).segov = s.segov := by simp [pushSp]
@[simp] theorem pushSp_rep (s : State) : (pushSp s).rep = s.rep := by simp [pushSp]
@[simp] theorem pushSp_map (s : State) : (pushSp s).map = s.map := by simp [pushSp]
@[simp] theorem pushSp_latchInt (s : State) : (pushSp s).latchInt = s.latchInt := by simp [pushSp]
@[simp] theorem pushSp_latchNmi (s : State) : (pushSp s).latchNmi = s.latchNmi := by simp [pushSp]
@[simp] theorem pushSp_trace (s : State) : (pushSp s).trace = s.trace := by simp [pushSp]
@[simp] theorem pushSp_sreg (s : State) (j' : SReg) : (pushSp s).sreg j' = s.sreg j' := by
  cases j' <;> simp [State.sreg]

@[simp] theorem pushSp_regs (s : State) : (pushSp s).regs = { s.regs with sp := s.regs.sp - 2 } := by simp [pushSp]

/-! ### `pop` -/

@[simp] theorem pop_segs (s : State) : (pop s).2.segs = s.segs := by simp [pop]
@[simp] theorem pop_pc (s : State) : (pop s).2.pc = s.pc := by simp [pop]
@[simp] theorem pop_flags (s : State) : (pop s).2.flags = s.flags := by simp [pop]
@[simp] theorem pop_vector (s : State) : (pop s).2.vector = s.vector := by simp [pop]
@[simp] theorem pop_halted (s : State) : (pop s).2.halted = s.halted := by simp [pop]
@[simp] theorem pop_noint (s : State) : (pop s).2.noint = s.noint := by simp [pop]
@[simp] theorem pop_segov (s : State) : (pop s).2.segov = s.segov := by simp [pop]
@[simp] theorem pop_rep (s : State) : (pop s).2.rep = s.rep := by simp [pop]
@[simp] theorem pop_map (s : State) : (pop s).2.map = s.map := by simp [pop]
@[simp] theorem pop_latchInt (s : State) : (pop s).2.latchInt = s.latchInt := by simp [pop]
@[simp] theorem pop_latchNmi (s : State) : (pop s).2.latchNmi = s.latchNmi := by simp [pop]
@[simp] theorem pop_trace (s : State) : (pop s).2.trace = s.trace := by simp [pop]
@[simp] theorem pop_mem (s : State) : (pop s).2.mem = s.mem := by simp [pop]
@[simp] theorem pop_sreg (s : State) (j' : SReg) : (pop s).2.sreg j' = s.sreg j' := by
  cases j' <;> simp [State.sreg]

/-- The registers after a pop: SP is 2 more (40_data_transfer R147). -/
@[simp] theorem pop_regs (s : State) : (pop s).2.regs = { s.regs with sp := s.regs.sp + 2 } := by simp [pop]

/-! ### `writePlace8` -/

@[simp] theorem writePlace8_segs (p : Place8) (v : Byte) (s : State) : (writePlace8 p v s).segs = s.segs := by cases p <;> simp [writePlace8]
@[simp] theorem writePlace8_pc (p : Place8) (v : Byte) (s : State) : (writePlace8 p v s).pc = s.pc := by cases p <;> simp [writePlace8]
@[simp] theorem writePlace8_flags (p : Place8) (v : Byte) (s : State) : (writePlace8 p v s).flags = s.flags := by cases p <;> simp [writePlace8]
@[simp] theorem writePlace8_vector (p : Place8) (v : Byte) (s : State) : (writePlace8 p v s).vector = s.vector := by cases p <;> simp [writePlace8]
@[simp] theorem writePlace8_halted (p : Place8) (v : Byte) (s : State) : (writePlace8 p v s).halted = s.halted := by cases p <;> simp [writePlace8]
@[simp] theorem writePlace8_noint (p : Place8) (v : Byte) (s : State) : (writePlace8 p v s).noint = s.noint := by cases p <;> simp [writePlace8]
@[simp] theorem writePlace8_segov (p : Place8) (v : Byte) (s : State) : (writePlace8 p v s).segov = s.segov := by cases p <;> simp [writePlace8]
@[simp] theorem writePlace8_rep (p : Place8) (v : Byte) (s : State) : (writePlace8 p v s).rep = s.rep := by cases p <;> simp [writePlace8]
@[simp] theorem writePlace8_map (p : Place8) (v : Byte) (s : State) : (writePlace8 p v s).map = s.map := by cases p <;> simp [writePlace8]
@[simp] theorem writePlace8_latchInt (p : Place8) (v : Byte) (s : State) : (writePlace8 p v s).latchInt = s.latchInt := by cases p <;> simp [writePlace8]
@[simp] theorem writePlace8_latchNmi (p : Place8) (v : Byte) (s : State) : (writePlace8 p v s).latchNmi = s.latchNmi := by cases p <;> simp [writePlace8]
@[simp] theorem writePlace8_trace (p : Place8) (v : Byte) (s : State) : (writePlace8 p v s).trace = s.trace := by cases p <;> simp [writePlace8]
@[simp] theorem writePlace8_sreg (p : Place8) (v : Byte) (s : State) (j' : SReg) : (writePlace8 p v s).sreg j' = s.sreg j' := by
  cases j' <;> simp [State.sreg]

/-! ### `aluPlace8` -/

@[simp] theorem aluPlace8_segs (op : AluOp) (p : Place8) (b : Byte) (s : State) : (aluPlace8 op p b s).segs = s.segs := by cases op <;> simp [aluPlace8, aluWrites]
@[simp] theorem aluPlace8_pc (op : AluOp) (p : Place8) (b : Byte) (s : State) : (aluPlace8 op p b s).pc = s.pc := by cases op <;> simp [aluPlace8, aluWrites]
@[simp] theorem aluPlace8_vector (op : AluOp) (p : Place8) (b : Byte) (s : State) : (aluPlace8 op p b s).vector = s.vector := by cases op <;> simp [aluPlace8, aluWrites]
@[simp] theorem aluPlace8_halted (op : AluOp) (p : Place8) (b : Byte) (s : State) : (aluPlace8 op p b s).halted = s.halted := by cases op <;> simp [aluPlace8, aluWrites]
@[simp] theorem aluPlace8_noint (op : AluOp) (p : Place8) (b : Byte) (s : State) : (aluPlace8 op p b s).noint = s.noint := by cases op <;> simp [aluPlace8, aluWrites]
@[simp] theorem aluPlace8_segov (op : AluOp) (p : Place8) (b : Byte) (s : State) : (aluPlace8 op p b s).segov = s.segov := by cases op <;> simp [aluPlace8, aluWrites]
@[simp] theorem aluPlace8_rep (op : AluOp) (p : Place8) (b : Byte) (s : State) : (aluPlace8 op p b s).rep = s.rep := by cases op <;> simp [aluPlace8, aluWrites]
@[simp] theorem aluPlace8_map (op : AluOp) (p : Place8) (b : Byte) (s : State) : (aluPlace8 op p b s).map = s.map := by cases op <;> simp [aluPlace8, aluWrites]
@[simp] theorem aluPlace8_latchInt (op : AluOp) (p : Place8) (b : Byte) (s : State) : (aluPlace8 op p b s).latchInt = s.latchInt := by cases op <;> simp [aluPlace8, aluWrites]
@[simp] theorem aluPlace8_latchNmi (op : AluOp) (p : Place8) (b : Byte) (s : State) : (aluPlace8 op p b s).latchNmi = s.latchNmi := by cases op <;> simp [aluPlace8, aluWrites]
@[simp] theorem aluPlace8_trace (op : AluOp) (p : Place8) (b : Byte) (s : State) : (aluPlace8 op p b s).trace = s.trace := by cases op <;> simp [aluPlace8, aluWrites]
@[simp] theorem aluPlace8_sreg (op : AluOp) (p : Place8) (b : Byte) (s : State) (j' : SReg) : (aluPlace8 op p b s).sreg j' = s.sreg j' := by
  cases j' <;> simp [State.sreg]

/-! ### `aluReg8` -/

@[simp] theorem aluReg8_segs (op : AluOp) (reg : Reg8) (p : Place8) (s : State) : (aluReg8 op reg p s).segs = s.segs := by cases op <;> simp [aluReg8, aluWrites]
@[simp] theorem aluReg8_pc (op : AluOp) (reg : Reg8) (p : Place8) (s : State) : (aluReg8 op reg p s).pc = s.pc := by cases op <;> simp [aluReg8, aluWrites]
@[simp] theorem aluReg8_vector (op : AluOp) (reg : Reg8) (p : Place8) (s : State) : (aluReg8 op reg p s).vector = s.vector := by cases op <;> simp [aluReg8, aluWrites]
@[simp] theorem aluReg8_halted (op : AluOp) (reg : Reg8) (p : Place8) (s : State) : (aluReg8 op reg p s).halted = s.halted := by cases op <;> simp [aluReg8, aluWrites]
@[simp] theorem aluReg8_noint (op : AluOp) (reg : Reg8) (p : Place8) (s : State) : (aluReg8 op reg p s).noint = s.noint := by cases op <;> simp [aluReg8, aluWrites]
@[simp] theorem aluReg8_segov (op : AluOp) (reg : Reg8) (p : Place8) (s : State) : (aluReg8 op reg p s).segov = s.segov := by cases op <;> simp [aluReg8, aluWrites]
@[simp] theorem aluReg8_rep (op : AluOp) (reg : Reg8) (p : Place8) (s : State) : (aluReg8 op reg p s).rep = s.rep := by cases op <;> simp [aluReg8, aluWrites]
@[simp] theorem aluReg8_map (op : AluOp) (reg : Reg8) (p : Place8) (s : State) : (aluReg8 op reg p s).map = s.map := by cases op <;> simp [aluReg8, aluWrites]
@[simp] theorem aluReg8_latchInt (op : AluOp) (reg : Reg8) (p : Place8) (s : State) : (aluReg8 op reg p s).latchInt = s.latchInt := by cases op <;> simp [aluReg8, aluWrites]
@[simp] theorem aluReg8_latchNmi (op : AluOp) (reg : Reg8) (p : Place8) (s : State) : (aluReg8 op reg p s).latchNmi = s.latchNmi := by cases op <;> simp [aluReg8, aluWrites]
@[simp] theorem aluReg8_trace (op : AluOp) (reg : Reg8) (p : Place8) (s : State) : (aluReg8 op reg p s).trace = s.trace := by cases op <;> simp [aluReg8, aluWrites]
@[simp] theorem aluReg8_mem (op : AluOp) (reg : Reg8) (p : Place8) (s : State) : (aluReg8 op reg p s).mem = s.mem := by cases op <;> simp [aluReg8, aluWrites]
@[simp] theorem aluReg8_sreg (op : AluOp) (reg : Reg8) (p : Place8) (s : State) (j' : SReg) : (aluReg8 op reg p s).sreg j' = s.sreg j' := by
  cases j' <;> simp [State.sreg]

/-! ### `unaryPlace8` -/

@[simp] theorem unaryPlace8_segs (f : Byte → Word → Byte × Word) (p : Place8) (s : State) : (unaryPlace8 f p s).segs = s.segs := by simp [unaryPlace8]
@[simp] theorem unaryPlace8_pc (f : Byte → Word → Byte × Word) (p : Place8) (s : State) : (unaryPlace8 f p s).pc = s.pc := by simp [unaryPlace8]
@[simp] theorem unaryPlace8_vector (f : Byte → Word → Byte × Word) (p : Place8) (s : State) : (unaryPlace8 f p s).vector = s.vector := by simp [unaryPlace8]
@[simp] theorem unaryPlace8_halted (f : Byte → Word → Byte × Word) (p : Place8) (s : State) : (unaryPlace8 f p s).halted = s.halted := by simp [unaryPlace8]
@[simp] theorem unaryPlace8_noint (f : Byte → Word → Byte × Word) (p : Place8) (s : State) : (unaryPlace8 f p s).noint = s.noint := by simp [unaryPlace8]
@[simp] theorem unaryPlace8_segov (f : Byte → Word → Byte × Word) (p : Place8) (s : State) : (unaryPlace8 f p s).segov = s.segov := by simp [unaryPlace8]
@[simp] theorem unaryPlace8_rep (f : Byte → Word → Byte × Word) (p : Place8) (s : State) : (unaryPlace8 f p s).rep = s.rep := by simp [unaryPlace8]
@[simp] theorem unaryPlace8_map (f : Byte → Word → Byte × Word) (p : Place8) (s : State) : (unaryPlace8 f p s).map = s.map := by simp [unaryPlace8]
@[simp] theorem unaryPlace8_latchInt (f : Byte → Word → Byte × Word) (p : Place8) (s : State) : (unaryPlace8 f p s).latchInt = s.latchInt := by simp [unaryPlace8]
@[simp] theorem unaryPlace8_latchNmi (f : Byte → Word → Byte × Word) (p : Place8) (s : State) : (unaryPlace8 f p s).latchNmi = s.latchNmi := by simp [unaryPlace8]
@[simp] theorem unaryPlace8_trace (f : Byte → Word → Byte × Word) (p : Place8) (s : State) : (unaryPlace8 f p s).trace = s.trace := by simp [unaryPlace8]
@[simp] theorem unaryPlace8_sreg (f : Byte → Word → Byte × Word) (p : Place8) (s : State) (j' : SReg) : (unaryPlace8 f p s).sreg j' = s.sreg j' := by
  cases j' <;> simp [State.sreg]

/-! ### `testPlace8` -/

@[simp] theorem testPlace8_regs (p : Place8) (b : Byte) (s : State) : (testPlace8 p b s).regs = s.regs := by simp [testPlace8]
@[simp] theorem testPlace8_segs (p : Place8) (b : Byte) (s : State) : (testPlace8 p b s).segs = s.segs := by simp [testPlace8]
@[simp] theorem testPlace8_pc (p : Place8) (b : Byte) (s : State) : (testPlace8 p b s).pc = s.pc := by simp [testPlace8]
@[simp] theorem testPlace8_vector (p : Place8) (b : Byte) (s : State) : (testPlace8 p b s).vector = s.vector := by simp [testPlace8]
@[simp] theorem testPlace8_halted (p : Place8) (b : Byte) (s : State) : (testPlace8 p b s).halted = s.halted := by simp [testPlace8]
@[simp] theorem testPlace8_noint (p : Place8) (b : Byte) (s : State) : (testPlace8 p b s).noint = s.noint := by simp [testPlace8]
@[simp] theorem testPlace8_segov (p : Place8) (b : Byte) (s : State) : (testPlace8 p b s).segov = s.segov := by simp [testPlace8]
@[simp] theorem testPlace8_rep (p : Place8) (b : Byte) (s : State) : (testPlace8 p b s).rep = s.rep := by simp [testPlace8]
@[simp] theorem testPlace8_map (p : Place8) (b : Byte) (s : State) : (testPlace8 p b s).map = s.map := by simp [testPlace8]
@[simp] theorem testPlace8_latchInt (p : Place8) (b : Byte) (s : State) : (testPlace8 p b s).latchInt = s.latchInt := by simp [testPlace8]
@[simp] theorem testPlace8_latchNmi (p : Place8) (b : Byte) (s : State) : (testPlace8 p b s).latchNmi = s.latchNmi := by simp [testPlace8]
@[simp] theorem testPlace8_trace (p : Place8) (b : Byte) (s : State) : (testPlace8 p b s).trace = s.trace := by simp [testPlace8]
@[simp] theorem testPlace8_mem (p : Place8) (b : Byte) (s : State) : (testPlace8 p b s).mem = s.mem := by simp [testPlace8]
@[simp] theorem testPlace8_sreg (p : Place8) (b : Byte) (s : State) (j' : SReg) : (testPlace8 p b s).sreg j' = s.sreg j' := by
  cases j' <;> simp [State.sreg]
@[simp] theorem testPlace8_reg16 (p : Place8) (b : Byte) (s : State) (r' : Reg16) : (testPlace8 p b s).reg16 r' = s.reg16 r' := by
  cases r' <;> simp [State.reg16]
@[simp] theorem testPlace8_reg8 (p : Place8) (b : Byte) (s : State) (r' : Reg8) : (testPlace8 p b s).reg8 r' = s.reg8 r' := by
  simp [State.reg8]

/-! ### `shiftPlace8` -/

@[simp] theorem shiftPlace8_segs (op : ShiftOp) (raw : Byte) (p : Place8) (s : State) : (shiftPlace8 op raw p s).segs = s.segs := by unfold shiftPlace8; dsimp only; split <;> simp
@[simp] theorem shiftPlace8_pc (op : ShiftOp) (raw : Byte) (p : Place8) (s : State) : (shiftPlace8 op raw p s).pc = s.pc := by unfold shiftPlace8; dsimp only; split <;> simp
@[simp] theorem shiftPlace8_vector (op : ShiftOp) (raw : Byte) (p : Place8) (s : State) : (shiftPlace8 op raw p s).vector = s.vector := by unfold shiftPlace8; dsimp only; split <;> simp
@[simp] theorem shiftPlace8_halted (op : ShiftOp) (raw : Byte) (p : Place8) (s : State) : (shiftPlace8 op raw p s).halted = s.halted := by unfold shiftPlace8; dsimp only; split <;> simp
@[simp] theorem shiftPlace8_noint (op : ShiftOp) (raw : Byte) (p : Place8) (s : State) : (shiftPlace8 op raw p s).noint = s.noint := by unfold shiftPlace8; dsimp only; split <;> simp
@[simp] theorem shiftPlace8_segov (op : ShiftOp) (raw : Byte) (p : Place8) (s : State) : (shiftPlace8 op raw p s).segov = s.segov := by unfold shiftPlace8; dsimp only; split <;> simp
@[simp] theorem shiftPlace8_rep (op : ShiftOp) (raw : Byte) (p : Place8) (s : State) : (shiftPlace8 op raw p s).rep = s.rep := by unfold shiftPlace8; dsimp only; split <;> simp
@[simp] theorem shiftPlace8_map (op : ShiftOp) (raw : Byte) (p : Place8) (s : State) : (shiftPlace8 op raw p s).map = s.map := by unfold shiftPlace8; dsimp only; split <;> simp
@[simp] theorem shiftPlace8_latchInt (op : ShiftOp) (raw : Byte) (p : Place8) (s : State) : (shiftPlace8 op raw p s).latchInt = s.latchInt := by unfold shiftPlace8; dsimp only; split <;> simp
@[simp] theorem shiftPlace8_latchNmi (op : ShiftOp) (raw : Byte) (p : Place8) (s : State) : (shiftPlace8 op raw p s).latchNmi = s.latchNmi := by unfold shiftPlace8; dsimp only; split <;> simp
@[simp] theorem shiftPlace8_trace (op : ShiftOp) (raw : Byte) (p : Place8) (s : State) : (shiftPlace8 op raw p s).trace = s.trace := by unfold shiftPlace8; dsimp only; split <;> simp
@[simp] theorem shiftPlace8_sreg (op : ShiftOp) (raw : Byte) (p : Place8) (s : State) (j' : SReg) : (shiftPlace8 op raw p s).sreg j' = s.sreg j' := by
  cases j' <;> simp [State.sreg]

/-! ### `notPlace8` -/

@[simp] theorem notPlace8_segs (p : Place8) (s : State) : (notPlace8 p s).segs = s.segs := by simp [notPlace8]
@[simp] theorem notPlace8_pc (p : Place8) (s : State) : (notPlace8 p s).pc = s.pc := by simp [notPlace8]
@[simp] theorem notPlace8_flags (p : Place8) (s : State) : (notPlace8 p s).flags = s.flags := by simp [notPlace8]
@[simp] theorem notPlace8_vector (p : Place8) (s : State) : (notPlace8 p s).vector = s.vector := by simp [notPlace8]
@[simp] theorem notPlace8_halted (p : Place8) (s : State) : (notPlace8 p s).halted = s.halted := by simp [notPlace8]
@[simp] theorem notPlace8_noint (p : Place8) (s : State) : (notPlace8 p s).noint = s.noint := by simp [notPlace8]
@[simp] theorem notPlace8_segov (p : Place8) (s : State) : (notPlace8 p s).segov = s.segov := by simp [notPlace8]
@[simp] theorem notPlace8_rep (p : Place8) (s : State) : (notPlace8 p s).rep = s.rep := by simp [notPlace8]
@[simp] theorem notPlace8_map (p : Place8) (s : State) : (notPlace8 p s).map = s.map := by simp [notPlace8]
@[simp] theorem notPlace8_latchInt (p : Place8) (s : State) : (notPlace8 p s).latchInt = s.latchInt := by simp [notPlace8]
@[simp] theorem notPlace8_latchNmi (p : Place8) (s : State) : (notPlace8 p s).latchNmi = s.latchNmi := by simp [notPlace8]
@[simp] theorem notPlace8_trace (p : Place8) (s : State) : (notPlace8 p s).trace = s.trace := by simp [notPlace8]
@[simp] theorem notPlace8_sreg (p : Place8) (s : State) (j' : SReg) : (notPlace8 p s).sreg j' = s.sreg j' := by
  cases j' <;> simp [State.sreg]

/-! ### `xchgPlace8` -/

@[simp] theorem xchgPlace8_segs (p : Place8) (reg : Reg8) (s : State) : (xchgPlace8 p reg s).segs = s.segs := by simp [xchgPlace8]
@[simp] theorem xchgPlace8_pc (p : Place8) (reg : Reg8) (s : State) : (xchgPlace8 p reg s).pc = s.pc := by simp [xchgPlace8]
@[simp] theorem xchgPlace8_flags (p : Place8) (reg : Reg8) (s : State) : (xchgPlace8 p reg s).flags = s.flags := by simp [xchgPlace8]
@[simp] theorem xchgPlace8_vector (p : Place8) (reg : Reg8) (s : State) : (xchgPlace8 p reg s).vector = s.vector := by simp [xchgPlace8]
@[simp] theorem xchgPlace8_halted (p : Place8) (reg : Reg8) (s : State) : (xchgPlace8 p reg s).halted = s.halted := by simp [xchgPlace8]
@[simp] theorem xchgPlace8_noint (p : Place8) (reg : Reg8) (s : State) : (xchgPlace8 p reg s).noint = s.noint := by simp [xchgPlace8]
@[simp] theorem xchgPlace8_segov (p : Place8) (reg : Reg8) (s : State) : (xchgPlace8 p reg s).segov = s.segov := by simp [xchgPlace8]
@[simp] theorem xchgPlace8_rep (p : Place8) (reg : Reg8) (s : State) : (xchgPlace8 p reg s).rep = s.rep := by simp [xchgPlace8]
@[simp] theorem xchgPlace8_map (p : Place8) (reg : Reg8) (s : State) : (xchgPlace8 p reg s).map = s.map := by simp [xchgPlace8]
@[simp] theorem xchgPlace8_latchInt (p : Place8) (reg : Reg8) (s : State) : (xchgPlace8 p reg s).latchInt = s.latchInt := by simp [xchgPlace8]
@[simp] theorem xchgPlace8_latchNmi (p : Place8) (reg : Reg8) (s : State) : (xchgPlace8 p reg s).latchNmi = s.latchNmi := by simp [xchgPlace8]
@[simp] theorem xchgPlace8_trace (p : Place8) (reg : Reg8) (s : State) : (xchgPlace8 p reg s).trace = s.trace := by simp [xchgPlace8]
@[simp] theorem xchgPlace8_sreg (p : Place8) (reg : Reg8) (s : State) (j' : SReg) : (xchgPlace8 p reg s).sreg j' = s.sreg j' := by
  cases j' <;> simp [State.sreg]

/-! ### `writePlace16` -/

@[simp] theorem writePlace16_segs (p : Place16) (v : Word) (s : State) : (writePlace16 p v s).segs = s.segs := by cases p <;> simp [writePlace16]
@[simp] theorem writePlace16_pc (p : Place16) (v : Word) (s : State) : (writePlace16 p v s).pc = s.pc := by cases p <;> simp [writePlace16]
@[simp] theorem writePlace16_flags (p : Place16) (v : Word) (s : State) : (writePlace16 p v s).flags = s.flags := by cases p <;> simp [writePlace16]
@[simp] theorem writePlace16_vector (p : Place16) (v : Word) (s : State) : (writePlace16 p v s).vector = s.vector := by cases p <;> simp [writePlace16]
@[simp] theorem writePlace16_halted (p : Place16) (v : Word) (s : State) : (writePlace16 p v s).halted = s.halted := by cases p <;> simp [writePlace16]
@[simp] theorem writePlace16_noint (p : Place16) (v : Word) (s : State) : (writePlace16 p v s).noint = s.noint := by cases p <;> simp [writePlace16]
@[simp] theorem writePlace16_segov (p : Place16) (v : Word) (s : State) : (writePlace16 p v s).segov = s.segov := by cases p <;> simp [writePlace16]
@[simp] theorem writePlace16_rep (p : Place16) (v : Word) (s : State) : (writePlace16 p v s).rep = s.rep := by cases p <;> simp [writePlace16]
@[simp] theorem writePlace16_map (p : Place16) (v : Word) (s : State) : (writePlace16 p v s).map = s.map := by cases p <;> simp [writePlace16]
@[simp] theorem writePlace16_latchInt (p : Place16) (v : Word) (s : State) : (writePlace16 p v s).latchInt = s.latchInt := by cases p <;> simp [writePlace16]
@[simp] theorem writePlace16_latchNmi (p : Place16) (v : Word) (s : State) : (writePlace16 p v s).latchNmi = s.latchNmi := by cases p <;> simp [writePlace16]
@[simp] theorem writePlace16_trace (p : Place16) (v : Word) (s : State) : (writePlace16 p v s).trace = s.trace := by cases p <;> simp [writePlace16]
@[simp] theorem writePlace16_sreg (p : Place16) (v : Word) (s : State) (j' : SReg) : (writePlace16 p v s).sreg j' = s.sreg j' := by
  cases j' <;> simp [State.sreg]

/-! ### `aluPlace16` -/

@[simp] theorem aluPlace16_segs (op : AluOp) (p : Place16) (b : Word) (s : State) : (aluPlace16 op p b s).segs = s.segs := by cases op <;> simp [aluPlace16, aluWrites]
@[simp] theorem aluPlace16_pc (op : AluOp) (p : Place16) (b : Word) (s : State) : (aluPlace16 op p b s).pc = s.pc := by cases op <;> simp [aluPlace16, aluWrites]
@[simp] theorem aluPlace16_vector (op : AluOp) (p : Place16) (b : Word) (s : State) : (aluPlace16 op p b s).vector = s.vector := by cases op <;> simp [aluPlace16, aluWrites]
@[simp] theorem aluPlace16_halted (op : AluOp) (p : Place16) (b : Word) (s : State) : (aluPlace16 op p b s).halted = s.halted := by cases op <;> simp [aluPlace16, aluWrites]
@[simp] theorem aluPlace16_noint (op : AluOp) (p : Place16) (b : Word) (s : State) : (aluPlace16 op p b s).noint = s.noint := by cases op <;> simp [aluPlace16, aluWrites]
@[simp] theorem aluPlace16_segov (op : AluOp) (p : Place16) (b : Word) (s : State) : (aluPlace16 op p b s).segov = s.segov := by cases op <;> simp [aluPlace16, aluWrites]
@[simp] theorem aluPlace16_rep (op : AluOp) (p : Place16) (b : Word) (s : State) : (aluPlace16 op p b s).rep = s.rep := by cases op <;> simp [aluPlace16, aluWrites]
@[simp] theorem aluPlace16_map (op : AluOp) (p : Place16) (b : Word) (s : State) : (aluPlace16 op p b s).map = s.map := by cases op <;> simp [aluPlace16, aluWrites]
@[simp] theorem aluPlace16_latchInt (op : AluOp) (p : Place16) (b : Word) (s : State) : (aluPlace16 op p b s).latchInt = s.latchInt := by cases op <;> simp [aluPlace16, aluWrites]
@[simp] theorem aluPlace16_latchNmi (op : AluOp) (p : Place16) (b : Word) (s : State) : (aluPlace16 op p b s).latchNmi = s.latchNmi := by cases op <;> simp [aluPlace16, aluWrites]
@[simp] theorem aluPlace16_trace (op : AluOp) (p : Place16) (b : Word) (s : State) : (aluPlace16 op p b s).trace = s.trace := by cases op <;> simp [aluPlace16, aluWrites]
@[simp] theorem aluPlace16_sreg (op : AluOp) (p : Place16) (b : Word) (s : State) (j' : SReg) : (aluPlace16 op p b s).sreg j' = s.sreg j' := by
  cases j' <;> simp [State.sreg]

/-! ### `aluReg16` -/

@[simp] theorem aluReg16_segs (op : AluOp) (reg : Reg16) (p : Place16) (s : State) : (aluReg16 op reg p s).segs = s.segs := by cases op <;> simp [aluReg16, aluWrites]
@[simp] theorem aluReg16_pc (op : AluOp) (reg : Reg16) (p : Place16) (s : State) : (aluReg16 op reg p s).pc = s.pc := by cases op <;> simp [aluReg16, aluWrites]
@[simp] theorem aluReg16_vector (op : AluOp) (reg : Reg16) (p : Place16) (s : State) : (aluReg16 op reg p s).vector = s.vector := by cases op <;> simp [aluReg16, aluWrites]
@[simp] theorem aluReg16_halted (op : AluOp) (reg : Reg16) (p : Place16) (s : State) : (aluReg16 op reg p s).halted = s.halted := by cases op <;> simp [aluReg16, aluWrites]
@[simp] theorem aluReg16_noint (op : AluOp) (reg : Reg16) (p : Place16) (s : State) : (aluReg16 op reg p s).noint = s.noint := by cases op <;> simp [aluReg16, aluWrites]
@[simp] theorem aluReg16_segov (op : AluOp) (reg : Reg16) (p : Place16) (s : State) : (aluReg16 op reg p s).segov = s.segov := by cases op <;> simp [aluReg16, aluWrites]
@[simp] theorem aluReg16_rep (op : AluOp) (reg : Reg16) (p : Place16) (s : State) : (aluReg16 op reg p s).rep = s.rep := by cases op <;> simp [aluReg16, aluWrites]
@[simp] theorem aluReg16_map (op : AluOp) (reg : Reg16) (p : Place16) (s : State) : (aluReg16 op reg p s).map = s.map := by cases op <;> simp [aluReg16, aluWrites]
@[simp] theorem aluReg16_latchInt (op : AluOp) (reg : Reg16) (p : Place16) (s : State) : (aluReg16 op reg p s).latchInt = s.latchInt := by cases op <;> simp [aluReg16, aluWrites]
@[simp] theorem aluReg16_latchNmi (op : AluOp) (reg : Reg16) (p : Place16) (s : State) : (aluReg16 op reg p s).latchNmi = s.latchNmi := by cases op <;> simp [aluReg16, aluWrites]
@[simp] theorem aluReg16_trace (op : AluOp) (reg : Reg16) (p : Place16) (s : State) : (aluReg16 op reg p s).trace = s.trace := by cases op <;> simp [aluReg16, aluWrites]
@[simp] theorem aluReg16_mem (op : AluOp) (reg : Reg16) (p : Place16) (s : State) : (aluReg16 op reg p s).mem = s.mem := by cases op <;> simp [aluReg16, aluWrites]
@[simp] theorem aluReg16_sreg (op : AluOp) (reg : Reg16) (p : Place16) (s : State) (j' : SReg) : (aluReg16 op reg p s).sreg j' = s.sreg j' := by
  cases j' <;> simp [State.sreg]

/-! ### `unaryPlace16` -/

@[simp] theorem unaryPlace16_segs (f : Word → Word → Word × Word) (p : Place16) (s : State) : (unaryPlace16 f p s).segs = s.segs := by simp [unaryPlace16]
@[simp] theorem unaryPlace16_pc (f : Word → Word → Word × Word) (p : Place16) (s : State) : (unaryPlace16 f p s).pc = s.pc := by simp [unaryPlace16]
@[simp] theorem unaryPlace16_vector (f : Word → Word → Word × Word) (p : Place16) (s : State) : (unaryPlace16 f p s).vector = s.vector := by simp [unaryPlace16]
@[simp] theorem unaryPlace16_halted (f : Word → Word → Word × Word) (p : Place16) (s : State) : (unaryPlace16 f p s).halted = s.halted := by simp [unaryPlace16]
@[simp] theorem unaryPlace16_noint (f : Word → Word → Word × Word) (p : Place16) (s : State) : (unaryPlace16 f p s).noint = s.noint := by simp [unaryPlace16]
@[simp] theorem unaryPlace16_segov (f : Word → Word → Word × Word) (p : Place16) (s : State) : (unaryPlace16 f p s).segov = s.segov := by simp [unaryPlace16]
@[simp] theorem unaryPlace16_rep (f : Word → Word → Word × Word) (p : Place16) (s : State) : (unaryPlace16 f p s).rep = s.rep := by simp [unaryPlace16]
@[simp] theorem unaryPlace16_map (f : Word → Word → Word × Word) (p : Place16) (s : State) : (unaryPlace16 f p s).map = s.map := by simp [unaryPlace16]
@[simp] theorem unaryPlace16_latchInt (f : Word → Word → Word × Word) (p : Place16) (s : State) : (unaryPlace16 f p s).latchInt = s.latchInt := by simp [unaryPlace16]
@[simp] theorem unaryPlace16_latchNmi (f : Word → Word → Word × Word) (p : Place16) (s : State) : (unaryPlace16 f p s).latchNmi = s.latchNmi := by simp [unaryPlace16]
@[simp] theorem unaryPlace16_trace (f : Word → Word → Word × Word) (p : Place16) (s : State) : (unaryPlace16 f p s).trace = s.trace := by simp [unaryPlace16]
@[simp] theorem unaryPlace16_sreg (f : Word → Word → Word × Word) (p : Place16) (s : State) (j' : SReg) : (unaryPlace16 f p s).sreg j' = s.sreg j' := by
  cases j' <;> simp [State.sreg]

/-! ### `testPlace16` -/

@[simp] theorem testPlace16_regs (p : Place16) (b : Word) (s : State) : (testPlace16 p b s).regs = s.regs := by simp [testPlace16]
@[simp] theorem testPlace16_segs (p : Place16) (b : Word) (s : State) : (testPlace16 p b s).segs = s.segs := by simp [testPlace16]
@[simp] theorem testPlace16_pc (p : Place16) (b : Word) (s : State) : (testPlace16 p b s).pc = s.pc := by simp [testPlace16]
@[simp] theorem testPlace16_vector (p : Place16) (b : Word) (s : State) : (testPlace16 p b s).vector = s.vector := by simp [testPlace16]
@[simp] theorem testPlace16_halted (p : Place16) (b : Word) (s : State) : (testPlace16 p b s).halted = s.halted := by simp [testPlace16]
@[simp] theorem testPlace16_noint (p : Place16) (b : Word) (s : State) : (testPlace16 p b s).noint = s.noint := by simp [testPlace16]
@[simp] theorem testPlace16_segov (p : Place16) (b : Word) (s : State) : (testPlace16 p b s).segov = s.segov := by simp [testPlace16]
@[simp] theorem testPlace16_rep (p : Place16) (b : Word) (s : State) : (testPlace16 p b s).rep = s.rep := by simp [testPlace16]
@[simp] theorem testPlace16_map (p : Place16) (b : Word) (s : State) : (testPlace16 p b s).map = s.map := by simp [testPlace16]
@[simp] theorem testPlace16_latchInt (p : Place16) (b : Word) (s : State) : (testPlace16 p b s).latchInt = s.latchInt := by simp [testPlace16]
@[simp] theorem testPlace16_latchNmi (p : Place16) (b : Word) (s : State) : (testPlace16 p b s).latchNmi = s.latchNmi := by simp [testPlace16]
@[simp] theorem testPlace16_trace (p : Place16) (b : Word) (s : State) : (testPlace16 p b s).trace = s.trace := by simp [testPlace16]
@[simp] theorem testPlace16_mem (p : Place16) (b : Word) (s : State) : (testPlace16 p b s).mem = s.mem := by simp [testPlace16]
@[simp] theorem testPlace16_sreg (p : Place16) (b : Word) (s : State) (j' : SReg) : (testPlace16 p b s).sreg j' = s.sreg j' := by
  cases j' <;> simp [State.sreg]
@[simp] theorem testPlace16_reg16 (p : Place16) (b : Word) (s : State) (r' : Reg16) : (testPlace16 p b s).reg16 r' = s.reg16 r' := by
  cases r' <;> simp [State.reg16]
@[simp] theorem testPlace16_reg8 (p : Place16) (b : Word) (s : State) (r' : Reg8) : (testPlace16 p b s).reg8 r' = s.reg8 r' := by
  simp [State.reg8]

/-! ### `shiftPlace16` -/

@[simp] theorem shiftPlace16_segs (op : ShiftOp) (raw : Byte) (p : Place16) (s : State) : (shiftPlace16 op raw p s).segs = s.segs := by unfold shiftPlace16; dsimp only; split <;> simp
@[simp] theorem shiftPlace16_pc (op : ShiftOp) (raw : Byte) (p : Place16) (s : State) : (shiftPlace16 op raw p s).pc = s.pc := by unfold shiftPlace16; dsimp only; split <;> simp
@[simp] theorem shiftPlace16_vector (op : ShiftOp) (raw : Byte) (p : Place16) (s : State) : (shiftPlace16 op raw p s).vector = s.vector := by unfold shiftPlace16; dsimp only; split <;> simp
@[simp] theorem shiftPlace16_halted (op : ShiftOp) (raw : Byte) (p : Place16) (s : State) : (shiftPlace16 op raw p s).halted = s.halted := by unfold shiftPlace16; dsimp only; split <;> simp
@[simp] theorem shiftPlace16_noint (op : ShiftOp) (raw : Byte) (p : Place16) (s : State) : (shiftPlace16 op raw p s).noint = s.noint := by unfold shiftPlace16; dsimp only; split <;> simp
@[simp] theorem shiftPlace16_segov (op : ShiftOp) (raw : Byte) (p : Place16) (s : State) : (shiftPlace16 op raw p s).segov = s.segov := by unfold shiftPlace16; dsimp only; split <;> simp
@[simp] theorem shiftPlace16_rep (op : ShiftOp) (raw : Byte) (p : Place16) (s : State) : (shiftPlace16 op raw p s).rep = s.rep := by unfold shiftPlace16; dsimp only; split <;> simp
@[simp] theorem shiftPlace16_map (op : ShiftOp) (raw : Byte) (p : Place16) (s : State) : (shiftPlace16 op raw p s).map = s.map := by unfold shiftPlace16; dsimp only; split <;> simp
@[simp] theorem shiftPlace16_latchInt (op : ShiftOp) (raw : Byte) (p : Place16) (s : State) : (shiftPlace16 op raw p s).latchInt = s.latchInt := by unfold shiftPlace16; dsimp only; split <;> simp
@[simp] theorem shiftPlace16_latchNmi (op : ShiftOp) (raw : Byte) (p : Place16) (s : State) : (shiftPlace16 op raw p s).latchNmi = s.latchNmi := by unfold shiftPlace16; dsimp only; split <;> simp
@[simp] theorem shiftPlace16_trace (op : ShiftOp) (raw : Byte) (p : Place16) (s : State) : (shiftPlace16 op raw p s).trace = s.trace := by unfold shiftPlace16; dsimp only; split <;> simp
@[simp] theorem shiftPlace16_sreg (op : ShiftOp) (raw : Byte) (p : Place16) (s : State) (j' : SReg) : (shiftPlace16 op raw p s).sreg j' = s.sreg j' := by
  cases j' <;> simp [State.sreg]

/-! ### `notPlace16` -/

@[simp] theorem notPlace16_segs (p : Place16) (s : State) : (notPlace16 p s).segs = s.segs := by simp [notPlace16]
@[simp] theorem notPlace16_pc (p : Place16) (s : State) : (notPlace16 p s).pc = s.pc := by simp [notPlace16]
@[simp] theorem notPlace16_flags (p : Place16) (s : State) : (notPlace16 p s).flags = s.flags := by simp [notPlace16]
@[simp] theorem notPlace16_vector (p : Place16) (s : State) : (notPlace16 p s).vector = s.vector := by simp [notPlace16]
@[simp] theorem notPlace16_halted (p : Place16) (s : State) : (notPlace16 p s).halted = s.halted := by simp [notPlace16]
@[simp] theorem notPlace16_noint (p : Place16) (s : State) : (notPlace16 p s).noint = s.noint := by simp [notPlace16]
@[simp] theorem notPlace16_segov (p : Place16) (s : State) : (notPlace16 p s).segov = s.segov := by simp [notPlace16]
@[simp] theorem notPlace16_rep (p : Place16) (s : State) : (notPlace16 p s).rep = s.rep := by simp [notPlace16]
@[simp] theorem notPlace16_map (p : Place16) (s : State) : (notPlace16 p s).map = s.map := by simp [notPlace16]
@[simp] theorem notPlace16_latchInt (p : Place16) (s : State) : (notPlace16 p s).latchInt = s.latchInt := by simp [notPlace16]
@[simp] theorem notPlace16_latchNmi (p : Place16) (s : State) : (notPlace16 p s).latchNmi = s.latchNmi := by simp [notPlace16]
@[simp] theorem notPlace16_trace (p : Place16) (s : State) : (notPlace16 p s).trace = s.trace := by simp [notPlace16]
@[simp] theorem notPlace16_sreg (p : Place16) (s : State) (j' : SReg) : (notPlace16 p s).sreg j' = s.sreg j' := by
  cases j' <;> simp [State.sreg]

/-! ### `xchgPlace16` -/

@[simp] theorem xchgPlace16_segs (p : Place16) (reg : Reg16) (s : State) : (xchgPlace16 p reg s).segs = s.segs := by simp [xchgPlace16]
@[simp] theorem xchgPlace16_pc (p : Place16) (reg : Reg16) (s : State) : (xchgPlace16 p reg s).pc = s.pc := by simp [xchgPlace16]
@[simp] theorem xchgPlace16_flags (p : Place16) (reg : Reg16) (s : State) : (xchgPlace16 p reg s).flags = s.flags := by simp [xchgPlace16]
@[simp] theorem xchgPlace16_vector (p : Place16) (reg : Reg16) (s : State) : (xchgPlace16 p reg s).vector = s.vector := by simp [xchgPlace16]
@[simp] theorem xchgPlace16_halted (p : Place16) (reg : Reg16) (s : State) : (xchgPlace16 p reg s).halted = s.halted := by simp [xchgPlace16]
@[simp] theorem xchgPlace16_noint (p : Place16) (reg : Reg16) (s : State) : (xchgPlace16 p reg s).noint = s.noint := by simp [xchgPlace16]
@[simp] theorem xchgPlace16_segov (p : Place16) (reg : Reg16) (s : State) : (xchgPlace16 p reg s).segov = s.segov := by simp [xchgPlace16]
@[simp] theorem xchgPlace16_rep (p : Place16) (reg : Reg16) (s : State) : (xchgPlace16 p reg s).rep = s.rep := by simp [xchgPlace16]
@[simp] theorem xchgPlace16_map (p : Place16) (reg : Reg16) (s : State) : (xchgPlace16 p reg s).map = s.map := by simp [xchgPlace16]
@[simp] theorem xchgPlace16_latchInt (p : Place16) (reg : Reg16) (s : State) : (xchgPlace16 p reg s).latchInt = s.latchInt := by simp [xchgPlace16]
@[simp] theorem xchgPlace16_latchNmi (p : Place16) (reg : Reg16) (s : State) : (xchgPlace16 p reg s).latchNmi = s.latchNmi := by simp [xchgPlace16]
@[simp] theorem xchgPlace16_trace (p : Place16) (reg : Reg16) (s : State) : (xchgPlace16 p reg s).trace = s.trace := by simp [xchgPlace16]
@[simp] theorem xchgPlace16_sreg (p : Place16) (reg : Reg16) (s : State) (j' : SReg) : (xchgPlace16 p reg s).sreg j' = s.sreg j' := by
  cases j' <;> simp [State.sreg]

/-! ### `pushPlace16` -/

@[simp] theorem pushPlace16_segs (p : Place16) (s : State) : (pushPlace16 p s).segs = s.segs := by unfold pushPlace16; dsimp only; split <;> simp
@[simp] theorem pushPlace16_pc (p : Place16) (s : State) : (pushPlace16 p s).pc = s.pc := by unfold pushPlace16; dsimp only; split <;> simp
@[simp] theorem pushPlace16_flags (p : Place16) (s : State) : (pushPlace16 p s).flags = s.flags := by unfold pushPlace16; dsimp only; split <;> simp
@[simp] theorem pushPlace16_vector (p : Place16) (s : State) : (pushPlace16 p s).vector = s.vector := by unfold pushPlace16; dsimp only; split <;> simp
@[simp] theorem pushPlace16_halted (p : Place16) (s : State) : (pushPlace16 p s).halted = s.halted := by unfold pushPlace16; dsimp only; split <;> simp
@[simp] theorem pushPlace16_noint (p : Place16) (s : State) : (pushPlace16 p s).noint = s.noint := by unfold pushPlace16; dsimp only; split <;> simp
@[simp] theorem pushPlace16_segov (p : Place16) (s : State) : (pushPlace16 p s).segov = s.segov := by unfold pushPlace16; dsimp only; split <;> simp
@[simp] theorem pushPlace16_rep (p : Place16) (s : State) : (pushPlace16 p s).rep = s.rep := by unfold pushPlace16; dsimp only; split <;> simp
@[simp] theorem pushPlace16_map (p : Place16) (s : State) : (pushPlace16 p s).map = s.map := by unfold pushPlace16; dsimp only; split <;> simp
@[simp] theorem pushPlace16_latchInt (p : Place16) (s : State) : (pushPlace16 p s).latchInt = s.latchInt := by unfold pushPlace16; dsimp only; split <;> simp
@[simp] theorem pushPlace16_latchNmi (p : Place16) (s : State) : (pushPlace16 p s).latchNmi = s.latchNmi := by unfold pushPlace16; dsimp only; split <;> simp
@[simp] theorem pushPlace16_trace (p : Place16) (s : State) : (pushPlace16 p s).trace = s.trace := by unfold pushPlace16; dsimp only; split <;> simp
@[simp] theorem pushPlace16_sreg (p : Place16) (s : State) (j' : SReg) : (pushPlace16 p s).sreg j' = s.sreg j' := by
  cases j' <;> simp [State.sreg]

@[simp] theorem pushPlace16_regs (p : Place16) (s : State) :
    (pushPlace16 p s).regs = { s.regs with sp := s.regs.sp - 2 } := by
  unfold pushPlace16; dsimp only; split <;> simp

/-! ### `popPlace16` -/

@[simp] theorem popPlace16_segs (p : Place16) (s : State) : (popPlace16 p s).segs = s.segs := by simp [popPlace16]
@[simp] theorem popPlace16_pc (p : Place16) (s : State) : (popPlace16 p s).pc = s.pc := by simp [popPlace16]
@[simp] theorem popPlace16_flags (p : Place16) (s : State) : (popPlace16 p s).flags = s.flags := by simp [popPlace16]
@[simp] theorem popPlace16_vector (p : Place16) (s : State) : (popPlace16 p s).vector = s.vector := by simp [popPlace16]
@[simp] theorem popPlace16_halted (p : Place16) (s : State) : (popPlace16 p s).halted = s.halted := by simp [popPlace16]
@[simp] theorem popPlace16_noint (p : Place16) (s : State) : (popPlace16 p s).noint = s.noint := by simp [popPlace16]
@[simp] theorem popPlace16_segov (p : Place16) (s : State) : (popPlace16 p s).segov = s.segov := by simp [popPlace16]
@[simp] theorem popPlace16_rep (p : Place16) (s : State) : (popPlace16 p s).rep = s.rep := by simp [popPlace16]
@[simp] theorem popPlace16_map (p : Place16) (s : State) : (popPlace16 p s).map = s.map := by simp [popPlace16]
@[simp] theorem popPlace16_latchInt (p : Place16) (s : State) : (popPlace16 p s).latchInt = s.latchInt := by simp [popPlace16]
@[simp] theorem popPlace16_latchNmi (p : Place16) (s : State) : (popPlace16 p s).latchNmi = s.latchNmi := by simp [popPlace16]
@[simp] theorem popPlace16_trace (p : Place16) (s : State) : (popPlace16 p s).trace = s.trace := by simp [popPlace16]
@[simp] theorem popPlace16_sreg (p : Place16) (s : State) (j' : SReg) : (popPlace16 p s).sreg j' = s.sreg j' := by
  cases j' <;> simp [State.sreg]

/-! ### `jumpRel` -/

@[simp] theorem jumpRel_regs (d : Word) (s : State) : (jumpRel d s).regs = s.regs := by simp [jumpRel]
@[simp] theorem jumpRel_segs (d : Word) (s : State) : (jumpRel d s).segs = s.segs := by simp [jumpRel]
@[simp] theorem jumpRel_flags (d : Word) (s : State) : (jumpRel d s).flags = s.flags := by simp [jumpRel]
@[simp] theorem jumpRel_vector (d : Word) (s : State) : (jumpRel d s).vector = s.vector := by simp [jumpRel]
@[simp] theorem jumpRel_halted (d : Word) (s : State) : (jumpRel d s).halted = s.halted := by simp [jumpRel]
@[simp] theorem jumpRel_noint (d : Word) (s : State) : (jumpRel d s).noint = s.noint := by simp [jumpRel]
@[simp] theorem jumpRel_segov (d : Word) (s : State) : (jumpRel d s).segov = s.segov := by simp [jumpRel]
@[simp] theorem jumpRel_rep (d : Word) (s : State) : (jumpRel d s).rep = s.rep := by simp [jumpRel]
@[simp] theorem jumpRel_map (d : Word) (s : State) : (jumpRel d s).map = s.map := by simp [jumpRel]
@[simp] theorem jumpRel_latchInt (d : Word) (s : State) : (jumpRel d s).latchInt = s.latchInt := by simp [jumpRel]
@[simp] theorem jumpRel_latchNmi (d : Word) (s : State) : (jumpRel d s).latchNmi = s.latchNmi := by simp [jumpRel]
@[simp] theorem jumpRel_trace (d : Word) (s : State) : (jumpRel d s).trace = s.trace := by simp [jumpRel]
@[simp] theorem jumpRel_mem (d : Word) (s : State) : (jumpRel d s).mem = s.mem := by simp [jumpRel]
@[simp] theorem jumpRel_sreg (d : Word) (s : State) (j' : SReg) : (jumpRel d s).sreg j' = s.sreg j' := by
  cases j' <;> simp [State.sreg]
@[simp] theorem jumpRel_reg16 (d : Word) (s : State) (r' : Reg16) : (jumpRel d s).reg16 r' = s.reg16 r' := by
  cases r' <;> simp [State.reg16]
@[simp] theorem jumpRel_reg8 (d : Word) (s : State) (r' : Reg8) : (jumpRel d s).reg8 r' = s.reg8 r' := by
  simp [State.reg8]

@[simp] theorem jumpRel_pending (d : Word) (s : State) : (jumpRel d s).pending = s.pending := by simp [jumpRel]
@[simp] theorem jumpRel_lineInt (d : Word) (s : State) : (jumpRel d s).lineInt = s.lineInt := by simp [jumpRel]
@[simp] theorem jumpRel_lineNmi (d : Word) (s : State) : (jumpRel d s).lineNmi = s.lineNmi := by simp [jumpRel]
@[simp] theorem jumpRel_resetReq (d : Word) (s : State) : (jumpRel d s).resetReq = s.resetReq := by simp [jumpRel]
@[simp] theorem jumpRel_devScript (d : Word) (s : State) : (jumpRel d s).devScript = s.devScript := by simp [jumpRel]
@[simp] theorem jumpRel_devLog (d : Word) (s : State) : (jumpRel d s).devLog = s.devLog := by simp [jumpRel]
/-! ### `jumpIf` -/

@[simp] theorem jumpIf_regs (b : Bool) (d : Word) (s : State) : (jumpIf b d s).regs = s.regs := by cases b <;> simp [jumpIf]
@[simp] theorem jumpIf_segs (b : Bool) (d : Word) (s : State) : (jumpIf b d s).segs = s.segs := by cases b <;> simp [jumpIf]
@[simp] theorem jumpIf_flags (b : Bool) (d : Word) (s : State) : (jumpIf b d s).flags = s.flags := by cases b <;> simp [jumpIf]
@[simp] theorem jumpIf_vector (b : Bool) (d : Word) (s : State) : (jumpIf b d s).vector = s.vector := by cases b <;> simp [jumpIf]
@[simp] theorem jumpIf_halted (b : Bool) (d : Word) (s : State) : (jumpIf b d s).halted = s.halted := by cases b <;> simp [jumpIf]
@[simp] theorem jumpIf_noint (b : Bool) (d : Word) (s : State) : (jumpIf b d s).noint = s.noint := by cases b <;> simp [jumpIf]
@[simp] theorem jumpIf_segov (b : Bool) (d : Word) (s : State) : (jumpIf b d s).segov = s.segov := by cases b <;> simp [jumpIf]
@[simp] theorem jumpIf_rep (b : Bool) (d : Word) (s : State) : (jumpIf b d s).rep = s.rep := by cases b <;> simp [jumpIf]
@[simp] theorem jumpIf_map (b : Bool) (d : Word) (s : State) : (jumpIf b d s).map = s.map := by cases b <;> simp [jumpIf]
@[simp] theorem jumpIf_latchInt (b : Bool) (d : Word) (s : State) : (jumpIf b d s).latchInt = s.latchInt := by cases b <;> simp [jumpIf]
@[simp] theorem jumpIf_latchNmi (b : Bool) (d : Word) (s : State) : (jumpIf b d s).latchNmi = s.latchNmi := by cases b <;> simp [jumpIf]
@[simp] theorem jumpIf_trace (b : Bool) (d : Word) (s : State) : (jumpIf b d s).trace = s.trace := by cases b <;> simp [jumpIf]
@[simp] theorem jumpIf_mem (b : Bool) (d : Word) (s : State) : (jumpIf b d s).mem = s.mem := by cases b <;> simp [jumpIf]
@[simp] theorem jumpIf_sreg (b : Bool) (d : Word) (s : State) (j' : SReg) : (jumpIf b d s).sreg j' = s.sreg j' := by
  cases j' <;> simp [State.sreg]
@[simp] theorem jumpIf_reg16 (b : Bool) (d : Word) (s : State) (r' : Reg16) : (jumpIf b d s).reg16 r' = s.reg16 r' := by
  cases r' <;> simp [State.reg16]
@[simp] theorem jumpIf_reg8 (b : Bool) (d : Word) (s : State) (r' : Reg8) : (jumpIf b d s).reg8 r' = s.reg8 r' := by
  simp [State.reg8]

@[simp] theorem jumpIf_pending (b : Bool) (d : Word) (s : State) : (jumpIf b d s).pending = s.pending := by cases b <;> simp [jumpIf]
@[simp] theorem jumpIf_lineInt (b : Bool) (d : Word) (s : State) : (jumpIf b d s).lineInt = s.lineInt := by cases b <;> simp [jumpIf]
@[simp] theorem jumpIf_lineNmi (b : Bool) (d : Word) (s : State) : (jumpIf b d s).lineNmi = s.lineNmi := by cases b <;> simp [jumpIf]
@[simp] theorem jumpIf_resetReq (b : Bool) (d : Word) (s : State) : (jumpIf b d s).resetReq = s.resetReq := by cases b <;> simp [jumpIf]
@[simp] theorem jumpIf_devScript (b : Bool) (d : Word) (s : State) : (jumpIf b d s).devScript = s.devScript := by cases b <;> simp [jumpIf]
@[simp] theorem jumpIf_devLog (b : Bool) (d : Word) (s : State) : (jumpIf b d s).devLog = s.devLog := by cases b <;> simp [jumpIf]
/-! ### `jumpFar` -/

@[simp] theorem jumpFar_regs (off seg : Word) (s : State) : (jumpFar off seg s).regs = s.regs := by simp [jumpFar]
@[simp] theorem jumpFar_flags (off seg : Word) (s : State) : (jumpFar off seg s).flags = s.flags := by simp [jumpFar]
@[simp] theorem jumpFar_vector (off seg : Word) (s : State) : (jumpFar off seg s).vector = s.vector := by simp [jumpFar]
@[simp] theorem jumpFar_halted (off seg : Word) (s : State) : (jumpFar off seg s).halted = s.halted := by simp [jumpFar]
@[simp] theorem jumpFar_noint (off seg : Word) (s : State) : (jumpFar off seg s).noint = s.noint := by simp [jumpFar]
@[simp] theorem jumpFar_segov (off seg : Word) (s : State) : (jumpFar off seg s).segov = s.segov := by simp [jumpFar]
@[simp] theorem jumpFar_rep (off seg : Word) (s : State) : (jumpFar off seg s).rep = s.rep := by simp [jumpFar]
@[simp] theorem jumpFar_map (off seg : Word) (s : State) : (jumpFar off seg s).map = s.map := by simp [jumpFar]
@[simp] theorem jumpFar_latchInt (off seg : Word) (s : State) : (jumpFar off seg s).latchInt = s.latchInt := by simp [jumpFar]
@[simp] theorem jumpFar_latchNmi (off seg : Word) (s : State) : (jumpFar off seg s).latchNmi = s.latchNmi := by simp [jumpFar]
@[simp] theorem jumpFar_trace (off seg : Word) (s : State) : (jumpFar off seg s).trace = s.trace := by simp [jumpFar]
@[simp] theorem jumpFar_mem (off seg : Word) (s : State) : (jumpFar off seg s).mem = s.mem := by simp [jumpFar]
@[simp] theorem jumpFar_reg16 (off seg : Word) (s : State) (r' : Reg16) : (jumpFar off seg s).reg16 r' = s.reg16 r' := by
  cases r' <;> simp [State.reg16]
@[simp] theorem jumpFar_reg8 (off seg : Word) (s : State) (r' : Reg8) : (jumpFar off seg s).reg8 r' = s.reg8 r' := by
  simp [State.reg8]

@[simp] theorem jumpFar_pending (off seg : Word) (s : State) : (jumpFar off seg s).pending = s.pending := by simp [jumpFar]
@[simp] theorem jumpFar_lineInt (off seg : Word) (s : State) : (jumpFar off seg s).lineInt = s.lineInt := by simp [jumpFar]
@[simp] theorem jumpFar_lineNmi (off seg : Word) (s : State) : (jumpFar off seg s).lineNmi = s.lineNmi := by simp [jumpFar]
@[simp] theorem jumpFar_resetReq (off seg : Word) (s : State) : (jumpFar off seg s).resetReq = s.resetReq := by simp [jumpFar]
@[simp] theorem jumpFar_devScript (off seg : Word) (s : State) : (jumpFar off seg s).devScript = s.devScript := by simp [jumpFar]
@[simp] theorem jumpFar_devLog (off seg : Word) (s : State) : (jumpFar off seg s).devLog = s.devLog := by simp [jumpFar]
/-! ### `releaseStack` -/

@[simp] theorem releaseStack_segs (cnt : Word) (s : State) : (releaseStack cnt s).segs = s.segs := by simp [releaseStack]
@[simp] theorem releaseStack_pc (cnt : Word) (s : State) : (releaseStack cnt s).pc = s.pc := by simp [releaseStack]
@[simp] theorem releaseStack_flags (cnt : Word) (s : State) : (releaseStack cnt s).flags = s.flags := by simp [releaseStack]
@[simp] theorem releaseStack_vector (cnt : Word) (s : State) : (releaseStack cnt s).vector = s.vector := by simp [releaseStack]
@[simp] theorem releaseStack_halted (cnt : Word) (s : State) : (releaseStack cnt s).halted = s.halted := by simp [releaseStack]
@[simp] theorem releaseStack_noint (cnt : Word) (s : State) : (releaseStack cnt s).noint = s.noint := by simp [releaseStack]
@[simp] theorem releaseStack_segov (cnt : Word) (s : State) : (releaseStack cnt s).segov = s.segov := by simp [releaseStack]
@[simp] theorem releaseStack_rep (cnt : Word) (s : State) : (releaseStack cnt s).rep = s.rep := by simp [releaseStack]
@[simp] theorem releaseStack_map (cnt : Word) (s : State) : (releaseStack cnt s).map = s.map := by simp [releaseStack]
@[simp] theorem releaseStack_latchInt (cnt : Word) (s : State) : (releaseStack cnt s).latchInt = s.latchInt := by simp [releaseStack]
@[simp] theorem releaseStack_latchNmi (cnt : Word) (s : State) : (releaseStack cnt s).latchNmi = s.latchNmi := by simp [releaseStack]
@[simp] theorem releaseStack_trace (cnt : Word) (s : State) : (releaseStack cnt s).trace = s.trace := by simp [releaseStack]
@[simp] theorem releaseStack_mem (cnt : Word) (s : State) : (releaseStack cnt s).mem = s.mem := by simp [releaseStack]
@[simp] theorem releaseStack_sreg (cnt : Word) (s : State) (j' : SReg) : (releaseStack cnt s).sreg j' = s.sreg j' := by
  cases j' <;> simp [State.sreg]

@[simp] theorem releaseStack_pending (cnt : Word) (s : State) : (releaseStack cnt s).pending = s.pending := by simp [releaseStack]
@[simp] theorem releaseStack_lineInt (cnt : Word) (s : State) : (releaseStack cnt s).lineInt = s.lineInt := by simp [releaseStack]
@[simp] theorem releaseStack_lineNmi (cnt : Word) (s : State) : (releaseStack cnt s).lineNmi = s.lineNmi := by simp [releaseStack]
@[simp] theorem releaseStack_resetReq (cnt : Word) (s : State) : (releaseStack cnt s).resetReq = s.resetReq := by simp [releaseStack]
@[simp] theorem releaseStack_devScript (cnt : Word) (s : State) : (releaseStack cnt s).devScript = s.devScript := by simp [releaseStack]
@[simp] theorem releaseStack_devLog (cnt : Word) (s : State) : (releaseStack cnt s).devLog = s.devLog := by simp [releaseStack]
/-! ### `trap` -/

@[simp] theorem trap_vector (n : Byte) (ret : Word) (s : State) : (trap n ret s).vector = s.vector := by simp [trap]
@[simp] theorem trap_halted (n : Byte) (ret : Word) (s : State) : (trap n ret s).halted = s.halted := by simp [trap]
@[simp] theorem trap_noint (n : Byte) (ret : Word) (s : State) : (trap n ret s).noint = s.noint := by simp [trap]
@[simp] theorem trap_segov (n : Byte) (ret : Word) (s : State) : (trap n ret s).segov = s.segov := by simp [trap]
@[simp] theorem trap_rep (n : Byte) (ret : Word) (s : State) : (trap n ret s).rep = s.rep := by simp [trap]
@[simp] theorem trap_map (n : Byte) (ret : Word) (s : State) : (trap n ret s).map = s.map := by simp [trap]
@[simp] theorem trap_latchInt (n : Byte) (ret : Word) (s : State) : (trap n ret s).latchInt = s.latchInt := by simp [trap]
@[simp] theorem trap_latchNmi (n : Byte) (ret : Word) (s : State) : (trap n ret s).latchNmi = s.latchNmi := by simp [trap]
@[simp] theorem trap_trace (n : Byte) (ret : Word) (s : State) : (trap n ret s).trace = s.trace := by simp [trap]

/-- The registers after a trap entry: SP is 6 less, nothing else changes (60_exceptions R321). -/
@[simp] theorem trap_regs (n : Byte) (ret : Word) (s : State) :
    (trap n ret s).regs = { s.regs with sp := s.regs.sp - 6 } := by
  have h : s.regs.sp - 2#16 - 2#16 - 2#16 = s.regs.sp - 6#16 := by bv_omega
  simp [trap, h]

/-- FLAGS after a trap entry: IF and TF cleared (60_exceptions R321). -/
@[simp] theorem trap_flags (n : Byte) (ret : Word) (s : State) :
    (trap n ret s).flags = putFlag .TF false (putFlag .IF false s.flags) := by simp [trap]

/-! ### `trapReturn` -/

@[simp] theorem trapReturn_vector (s : State) : (trapReturn s).vector = s.vector := by simp [trapReturn]
@[simp] theorem trapReturn_halted (s : State) : (trapReturn s).halted = s.halted := by simp [trapReturn]
@[simp] theorem trapReturn_noint (s : State) : (trapReturn s).noint = s.noint := by simp [trapReturn]
@[simp] theorem trapReturn_segov (s : State) : (trapReturn s).segov = s.segov := by simp [trapReturn]
@[simp] theorem trapReturn_rep (s : State) : (trapReturn s).rep = s.rep := by simp [trapReturn]
@[simp] theorem trapReturn_map (s : State) : (trapReturn s).map = s.map := by simp [trapReturn]
@[simp] theorem trapReturn_latchInt (s : State) : (trapReturn s).latchInt = s.latchInt := by simp [trapReturn]
@[simp] theorem trapReturn_latchNmi (s : State) : (trapReturn s).latchNmi = s.latchNmi := by simp [trapReturn]
@[simp] theorem trapReturn_trace (s : State) : (trapReturn s).trace = s.trace := by simp [trapReturn]
@[simp] theorem trapReturn_mem (s : State) : (trapReturn s).mem = s.mem := by simp [trapReturn]

@[simp] theorem trapReturn_regs (s : State) : (trapReturn s).regs = { s.regs with sp := s.regs.sp + 6 } := by
  have h : s.regs.sp + 2#16 + 2#16 + 2#16 = s.regs.sp + 6#16 := by bv_omega
  simp [trapReturn, h]

/-! ### `returnFar` -/

@[simp] theorem returnFar_flags (s : State) : (returnFar s).flags = s.flags := by simp [returnFar]
@[simp] theorem returnFar_vector (s : State) : (returnFar s).vector = s.vector := by simp [returnFar]
@[simp] theorem returnFar_halted (s : State) : (returnFar s).halted = s.halted := by simp [returnFar]
@[simp] theorem returnFar_noint (s : State) : (returnFar s).noint = s.noint := by simp [returnFar]
@[simp] theorem returnFar_segov (s : State) : (returnFar s).segov = s.segov := by simp [returnFar]
@[simp] theorem returnFar_rep (s : State) : (returnFar s).rep = s.rep := by simp [returnFar]
@[simp] theorem returnFar_map (s : State) : (returnFar s).map = s.map := by simp [returnFar]
@[simp] theorem returnFar_latchInt (s : State) : (returnFar s).latchInt = s.latchInt := by simp [returnFar]
@[simp] theorem returnFar_latchNmi (s : State) : (returnFar s).latchNmi = s.latchNmi := by simp [returnFar]
@[simp] theorem returnFar_trace (s : State) : (returnFar s).trace = s.trace := by simp [returnFar]
@[simp] theorem returnFar_mem (s : State) : (returnFar s).mem = s.mem := by simp [returnFar]

@[simp] theorem returnFar_regs (s : State) : (returnFar s).regs = { s.regs with sp := s.regs.sp + 4 } := by
  have h : s.regs.sp + 2#16 + 2#16 = s.regs.sp + 4#16 := by bv_omega
  simp [returnFar, h]

/-! ### `movsOne8` -/

@[simp] theorem movsOne8_segs (src : SReg) (d : Word) (s : State) : (movsOne8 src d s).segs = s.segs := by simp [movsOne8]
@[simp] theorem movsOne8_pc (src : SReg) (d : Word) (s : State) : (movsOne8 src d s).pc = s.pc := by simp [movsOne8]
@[simp] theorem movsOne8_flags (src : SReg) (d : Word) (s : State) : (movsOne8 src d s).flags = s.flags := by simp [movsOne8]
@[simp] theorem movsOne8_vector (src : SReg) (d : Word) (s : State) : (movsOne8 src d s).vector = s.vector := by simp [movsOne8]
@[simp] theorem movsOne8_halted (src : SReg) (d : Word) (s : State) : (movsOne8 src d s).halted = s.halted := by simp [movsOne8]
@[simp] theorem movsOne8_noint (src : SReg) (d : Word) (s : State) : (movsOne8 src d s).noint = s.noint := by simp [movsOne8]
@[simp] theorem movsOne8_segov (src : SReg) (d : Word) (s : State) : (movsOne8 src d s).segov = s.segov := by simp [movsOne8]
@[simp] theorem movsOne8_rep (src : SReg) (d : Word) (s : State) : (movsOne8 src d s).rep = s.rep := by simp [movsOne8]
@[simp] theorem movsOne8_map (src : SReg) (d : Word) (s : State) : (movsOne8 src d s).map = s.map := by simp [movsOne8]
@[simp] theorem movsOne8_latchInt (src : SReg) (d : Word) (s : State) : (movsOne8 src d s).latchInt = s.latchInt := by simp [movsOne8]
@[simp] theorem movsOne8_latchNmi (src : SReg) (d : Word) (s : State) : (movsOne8 src d s).latchNmi = s.latchNmi := by simp [movsOne8]
@[simp] theorem movsOne8_trace (src : SReg) (d : Word) (s : State) : (movsOne8 src d s).trace = s.trace := by simp [movsOne8]
@[simp] theorem movsOne8_sreg (src : SReg) (d : Word) (s : State) (j' : SReg) : (movsOne8 src d s).sreg j' = s.sreg j' := by
  cases j' <;> simp [State.sreg]

/-! ### `cmpsOne8` -/

@[simp] theorem cmpsOne8_segs (src : SReg) (d : Word) (s : State) : (cmpsOne8 src d s).segs = s.segs := by simp [cmpsOne8]
@[simp] theorem cmpsOne8_pc (src : SReg) (d : Word) (s : State) : (cmpsOne8 src d s).pc = s.pc := by simp [cmpsOne8]
@[simp] theorem cmpsOne8_vector (src : SReg) (d : Word) (s : State) : (cmpsOne8 src d s).vector = s.vector := by simp [cmpsOne8]
@[simp] theorem cmpsOne8_halted (src : SReg) (d : Word) (s : State) : (cmpsOne8 src d s).halted = s.halted := by simp [cmpsOne8]
@[simp] theorem cmpsOne8_noint (src : SReg) (d : Word) (s : State) : (cmpsOne8 src d s).noint = s.noint := by simp [cmpsOne8]
@[simp] theorem cmpsOne8_segov (src : SReg) (d : Word) (s : State) : (cmpsOne8 src d s).segov = s.segov := by simp [cmpsOne8]
@[simp] theorem cmpsOne8_rep (src : SReg) (d : Word) (s : State) : (cmpsOne8 src d s).rep = s.rep := by simp [cmpsOne8]
@[simp] theorem cmpsOne8_map (src : SReg) (d : Word) (s : State) : (cmpsOne8 src d s).map = s.map := by simp [cmpsOne8]
@[simp] theorem cmpsOne8_latchInt (src : SReg) (d : Word) (s : State) : (cmpsOne8 src d s).latchInt = s.latchInt := by simp [cmpsOne8]
@[simp] theorem cmpsOne8_latchNmi (src : SReg) (d : Word) (s : State) : (cmpsOne8 src d s).latchNmi = s.latchNmi := by simp [cmpsOne8]
@[simp] theorem cmpsOne8_trace (src : SReg) (d : Word) (s : State) : (cmpsOne8 src d s).trace = s.trace := by simp [cmpsOne8]
@[simp] theorem cmpsOne8_mem (src : SReg) (d : Word) (s : State) : (cmpsOne8 src d s).mem = s.mem := by simp [cmpsOne8]
@[simp] theorem cmpsOne8_sreg (src : SReg) (d : Word) (s : State) (j' : SReg) : (cmpsOne8 src d s).sreg j' = s.sreg j' := by
  cases j' <;> simp [State.sreg]

/-! ### `stosOne8` -/

@[simp] theorem stosOne8_segs (d : Word) (s : State) : (stosOne8 d s).segs = s.segs := by simp [stosOne8]
@[simp] theorem stosOne8_pc (d : Word) (s : State) : (stosOne8 d s).pc = s.pc := by simp [stosOne8]
@[simp] theorem stosOne8_flags (d : Word) (s : State) : (stosOne8 d s).flags = s.flags := by simp [stosOne8]
@[simp] theorem stosOne8_vector (d : Word) (s : State) : (stosOne8 d s).vector = s.vector := by simp [stosOne8]
@[simp] theorem stosOne8_halted (d : Word) (s : State) : (stosOne8 d s).halted = s.halted := by simp [stosOne8]
@[simp] theorem stosOne8_noint (d : Word) (s : State) : (stosOne8 d s).noint = s.noint := by simp [stosOne8]
@[simp] theorem stosOne8_segov (d : Word) (s : State) : (stosOne8 d s).segov = s.segov := by simp [stosOne8]
@[simp] theorem stosOne8_rep (d : Word) (s : State) : (stosOne8 d s).rep = s.rep := by simp [stosOne8]
@[simp] theorem stosOne8_map (d : Word) (s : State) : (stosOne8 d s).map = s.map := by simp [stosOne8]
@[simp] theorem stosOne8_latchInt (d : Word) (s : State) : (stosOne8 d s).latchInt = s.latchInt := by simp [stosOne8]
@[simp] theorem stosOne8_latchNmi (d : Word) (s : State) : (stosOne8 d s).latchNmi = s.latchNmi := by simp [stosOne8]
@[simp] theorem stosOne8_trace (d : Word) (s : State) : (stosOne8 d s).trace = s.trace := by simp [stosOne8]
@[simp] theorem stosOne8_sreg (d : Word) (s : State) (j' : SReg) : (stosOne8 d s).sreg j' = s.sreg j' := by
  cases j' <;> simp [State.sreg]

/-! ### `lodsOne8` -/

@[simp] theorem lodsOne8_segs (src : SReg) (d : Word) (s : State) : (lodsOne8 src d s).segs = s.segs := by simp [lodsOne8]
@[simp] theorem lodsOne8_pc (src : SReg) (d : Word) (s : State) : (lodsOne8 src d s).pc = s.pc := by simp [lodsOne8]
@[simp] theorem lodsOne8_flags (src : SReg) (d : Word) (s : State) : (lodsOne8 src d s).flags = s.flags := by simp [lodsOne8]
@[simp] theorem lodsOne8_vector (src : SReg) (d : Word) (s : State) : (lodsOne8 src d s).vector = s.vector := by simp [lodsOne8]
@[simp] theorem lodsOne8_halted (src : SReg) (d : Word) (s : State) : (lodsOne8 src d s).halted = s.halted := by simp [lodsOne8]
@[simp] theorem lodsOne8_noint (src : SReg) (d : Word) (s : State) : (lodsOne8 src d s).noint = s.noint := by simp [lodsOne8]
@[simp] theorem lodsOne8_segov (src : SReg) (d : Word) (s : State) : (lodsOne8 src d s).segov = s.segov := by simp [lodsOne8]
@[simp] theorem lodsOne8_rep (src : SReg) (d : Word) (s : State) : (lodsOne8 src d s).rep = s.rep := by simp [lodsOne8]
@[simp] theorem lodsOne8_map (src : SReg) (d : Word) (s : State) : (lodsOne8 src d s).map = s.map := by simp [lodsOne8]
@[simp] theorem lodsOne8_latchInt (src : SReg) (d : Word) (s : State) : (lodsOne8 src d s).latchInt = s.latchInt := by simp [lodsOne8]
@[simp] theorem lodsOne8_latchNmi (src : SReg) (d : Word) (s : State) : (lodsOne8 src d s).latchNmi = s.latchNmi := by simp [lodsOne8]
@[simp] theorem lodsOne8_trace (src : SReg) (d : Word) (s : State) : (lodsOne8 src d s).trace = s.trace := by simp [lodsOne8]
@[simp] theorem lodsOne8_mem (src : SReg) (d : Word) (s : State) : (lodsOne8 src d s).mem = s.mem := by simp [lodsOne8]
@[simp] theorem lodsOne8_sreg (src : SReg) (d : Word) (s : State) (j' : SReg) : (lodsOne8 src d s).sreg j' = s.sreg j' := by
  cases j' <;> simp [State.sreg]

/-! ### `scasOne8` -/

@[simp] theorem scasOne8_segs (d : Word) (s : State) : (scasOne8 d s).segs = s.segs := by simp [scasOne8]
@[simp] theorem scasOne8_pc (d : Word) (s : State) : (scasOne8 d s).pc = s.pc := by simp [scasOne8]
@[simp] theorem scasOne8_vector (d : Word) (s : State) : (scasOne8 d s).vector = s.vector := by simp [scasOne8]
@[simp] theorem scasOne8_halted (d : Word) (s : State) : (scasOne8 d s).halted = s.halted := by simp [scasOne8]
@[simp] theorem scasOne8_noint (d : Word) (s : State) : (scasOne8 d s).noint = s.noint := by simp [scasOne8]
@[simp] theorem scasOne8_segov (d : Word) (s : State) : (scasOne8 d s).segov = s.segov := by simp [scasOne8]
@[simp] theorem scasOne8_rep (d : Word) (s : State) : (scasOne8 d s).rep = s.rep := by simp [scasOne8]
@[simp] theorem scasOne8_map (d : Word) (s : State) : (scasOne8 d s).map = s.map := by simp [scasOne8]
@[simp] theorem scasOne8_latchInt (d : Word) (s : State) : (scasOne8 d s).latchInt = s.latchInt := by simp [scasOne8]
@[simp] theorem scasOne8_latchNmi (d : Word) (s : State) : (scasOne8 d s).latchNmi = s.latchNmi := by simp [scasOne8]
@[simp] theorem scasOne8_trace (d : Word) (s : State) : (scasOne8 d s).trace = s.trace := by simp [scasOne8]
@[simp] theorem scasOne8_mem (d : Word) (s : State) : (scasOne8 d s).mem = s.mem := by simp [scasOne8]
@[simp] theorem scasOne8_sreg (d : Word) (s : State) (j' : SReg) : (scasOne8 d s).sreg j' = s.sreg j' := by
  cases j' <;> simp [State.sreg]

@[simp] theorem movsOne8_regs (src : SReg) (d : Word) (s : State) :
    (movsOne8 src d s).regs = { s.regs with si := s.regs.si + d, di := s.regs.di + d } := by simp [movsOne8]
@[simp] theorem cmpsOne8_regs (src : SReg) (d : Word) (s : State) :
    (cmpsOne8 src d s).regs = { s.regs with si := s.regs.si + d, di := s.regs.di + d } := by simp [cmpsOne8]
@[simp] theorem stosOne8_regs (d : Word) (s : State) :
    (stosOne8 d s).regs = { s.regs with di := s.regs.di + d } := by simp [stosOne8]
@[simp] theorem scasOne8_regs (d : Word) (s : State) :
    (scasOne8 d s).regs = { s.regs with di := s.regs.di + d } := by simp [scasOne8]

/-! ### `movsOne16` -/

@[simp] theorem movsOne16_segs (src : SReg) (d : Word) (s : State) : (movsOne16 src d s).segs = s.segs := by simp [movsOne16]
@[simp] theorem movsOne16_pc (src : SReg) (d : Word) (s : State) : (movsOne16 src d s).pc = s.pc := by simp [movsOne16]
@[simp] theorem movsOne16_flags (src : SReg) (d : Word) (s : State) : (movsOne16 src d s).flags = s.flags := by simp [movsOne16]
@[simp] theorem movsOne16_vector (src : SReg) (d : Word) (s : State) : (movsOne16 src d s).vector = s.vector := by simp [movsOne16]
@[simp] theorem movsOne16_halted (src : SReg) (d : Word) (s : State) : (movsOne16 src d s).halted = s.halted := by simp [movsOne16]
@[simp] theorem movsOne16_noint (src : SReg) (d : Word) (s : State) : (movsOne16 src d s).noint = s.noint := by simp [movsOne16]
@[simp] theorem movsOne16_segov (src : SReg) (d : Word) (s : State) : (movsOne16 src d s).segov = s.segov := by simp [movsOne16]
@[simp] theorem movsOne16_rep (src : SReg) (d : Word) (s : State) : (movsOne16 src d s).rep = s.rep := by simp [movsOne16]
@[simp] theorem movsOne16_map (src : SReg) (d : Word) (s : State) : (movsOne16 src d s).map = s.map := by simp [movsOne16]
@[simp] theorem movsOne16_latchInt (src : SReg) (d : Word) (s : State) : (movsOne16 src d s).latchInt = s.latchInt := by simp [movsOne16]
@[simp] theorem movsOne16_latchNmi (src : SReg) (d : Word) (s : State) : (movsOne16 src d s).latchNmi = s.latchNmi := by simp [movsOne16]
@[simp] theorem movsOne16_trace (src : SReg) (d : Word) (s : State) : (movsOne16 src d s).trace = s.trace := by simp [movsOne16]
@[simp] theorem movsOne16_sreg (src : SReg) (d : Word) (s : State) (j' : SReg) : (movsOne16 src d s).sreg j' = s.sreg j' := by
  cases j' <;> simp [State.sreg]

/-! ### `cmpsOne16` -/

@[simp] theorem cmpsOne16_segs (src : SReg) (d : Word) (s : State) : (cmpsOne16 src d s).segs = s.segs := by simp [cmpsOne16]
@[simp] theorem cmpsOne16_pc (src : SReg) (d : Word) (s : State) : (cmpsOne16 src d s).pc = s.pc := by simp [cmpsOne16]
@[simp] theorem cmpsOne16_vector (src : SReg) (d : Word) (s : State) : (cmpsOne16 src d s).vector = s.vector := by simp [cmpsOne16]
@[simp] theorem cmpsOne16_halted (src : SReg) (d : Word) (s : State) : (cmpsOne16 src d s).halted = s.halted := by simp [cmpsOne16]
@[simp] theorem cmpsOne16_noint (src : SReg) (d : Word) (s : State) : (cmpsOne16 src d s).noint = s.noint := by simp [cmpsOne16]
@[simp] theorem cmpsOne16_segov (src : SReg) (d : Word) (s : State) : (cmpsOne16 src d s).segov = s.segov := by simp [cmpsOne16]
@[simp] theorem cmpsOne16_rep (src : SReg) (d : Word) (s : State) : (cmpsOne16 src d s).rep = s.rep := by simp [cmpsOne16]
@[simp] theorem cmpsOne16_map (src : SReg) (d : Word) (s : State) : (cmpsOne16 src d s).map = s.map := by simp [cmpsOne16]
@[simp] theorem cmpsOne16_latchInt (src : SReg) (d : Word) (s : State) : (cmpsOne16 src d s).latchInt = s.latchInt := by simp [cmpsOne16]
@[simp] theorem cmpsOne16_latchNmi (src : SReg) (d : Word) (s : State) : (cmpsOne16 src d s).latchNmi = s.latchNmi := by simp [cmpsOne16]
@[simp] theorem cmpsOne16_trace (src : SReg) (d : Word) (s : State) : (cmpsOne16 src d s).trace = s.trace := by simp [cmpsOne16]
@[simp] theorem cmpsOne16_mem (src : SReg) (d : Word) (s : State) : (cmpsOne16 src d s).mem = s.mem := by simp [cmpsOne16]
@[simp] theorem cmpsOne16_sreg (src : SReg) (d : Word) (s : State) (j' : SReg) : (cmpsOne16 src d s).sreg j' = s.sreg j' := by
  cases j' <;> simp [State.sreg]

/-! ### `stosOne16` -/

@[simp] theorem stosOne16_segs (d : Word) (s : State) : (stosOne16 d s).segs = s.segs := by simp [stosOne16]
@[simp] theorem stosOne16_pc (d : Word) (s : State) : (stosOne16 d s).pc = s.pc := by simp [stosOne16]
@[simp] theorem stosOne16_flags (d : Word) (s : State) : (stosOne16 d s).flags = s.flags := by simp [stosOne16]
@[simp] theorem stosOne16_vector (d : Word) (s : State) : (stosOne16 d s).vector = s.vector := by simp [stosOne16]
@[simp] theorem stosOne16_halted (d : Word) (s : State) : (stosOne16 d s).halted = s.halted := by simp [stosOne16]
@[simp] theorem stosOne16_noint (d : Word) (s : State) : (stosOne16 d s).noint = s.noint := by simp [stosOne16]
@[simp] theorem stosOne16_segov (d : Word) (s : State) : (stosOne16 d s).segov = s.segov := by simp [stosOne16]
@[simp] theorem stosOne16_rep (d : Word) (s : State) : (stosOne16 d s).rep = s.rep := by simp [stosOne16]
@[simp] theorem stosOne16_map (d : Word) (s : State) : (stosOne16 d s).map = s.map := by simp [stosOne16]
@[simp] theorem stosOne16_latchInt (d : Word) (s : State) : (stosOne16 d s).latchInt = s.latchInt := by simp [stosOne16]
@[simp] theorem stosOne16_latchNmi (d : Word) (s : State) : (stosOne16 d s).latchNmi = s.latchNmi := by simp [stosOne16]
@[simp] theorem stosOne16_trace (d : Word) (s : State) : (stosOne16 d s).trace = s.trace := by simp [stosOne16]
@[simp] theorem stosOne16_sreg (d : Word) (s : State) (j' : SReg) : (stosOne16 d s).sreg j' = s.sreg j' := by
  cases j' <;> simp [State.sreg]

/-! ### `lodsOne16` -/

@[simp] theorem lodsOne16_segs (src : SReg) (d : Word) (s : State) : (lodsOne16 src d s).segs = s.segs := by simp [lodsOne16]
@[simp] theorem lodsOne16_pc (src : SReg) (d : Word) (s : State) : (lodsOne16 src d s).pc = s.pc := by simp [lodsOne16]
@[simp] theorem lodsOne16_flags (src : SReg) (d : Word) (s : State) : (lodsOne16 src d s).flags = s.flags := by simp [lodsOne16]
@[simp] theorem lodsOne16_vector (src : SReg) (d : Word) (s : State) : (lodsOne16 src d s).vector = s.vector := by simp [lodsOne16]
@[simp] theorem lodsOne16_halted (src : SReg) (d : Word) (s : State) : (lodsOne16 src d s).halted = s.halted := by simp [lodsOne16]
@[simp] theorem lodsOne16_noint (src : SReg) (d : Word) (s : State) : (lodsOne16 src d s).noint = s.noint := by simp [lodsOne16]
@[simp] theorem lodsOne16_segov (src : SReg) (d : Word) (s : State) : (lodsOne16 src d s).segov = s.segov := by simp [lodsOne16]
@[simp] theorem lodsOne16_rep (src : SReg) (d : Word) (s : State) : (lodsOne16 src d s).rep = s.rep := by simp [lodsOne16]
@[simp] theorem lodsOne16_map (src : SReg) (d : Word) (s : State) : (lodsOne16 src d s).map = s.map := by simp [lodsOne16]
@[simp] theorem lodsOne16_latchInt (src : SReg) (d : Word) (s : State) : (lodsOne16 src d s).latchInt = s.latchInt := by simp [lodsOne16]
@[simp] theorem lodsOne16_latchNmi (src : SReg) (d : Word) (s : State) : (lodsOne16 src d s).latchNmi = s.latchNmi := by simp [lodsOne16]
@[simp] theorem lodsOne16_trace (src : SReg) (d : Word) (s : State) : (lodsOne16 src d s).trace = s.trace := by simp [lodsOne16]
@[simp] theorem lodsOne16_mem (src : SReg) (d : Word) (s : State) : (lodsOne16 src d s).mem = s.mem := by simp [lodsOne16]
@[simp] theorem lodsOne16_sreg (src : SReg) (d : Word) (s : State) (j' : SReg) : (lodsOne16 src d s).sreg j' = s.sreg j' := by
  cases j' <;> simp [State.sreg]

/-! ### `scasOne16` -/

@[simp] theorem scasOne16_segs (d : Word) (s : State) : (scasOne16 d s).segs = s.segs := by simp [scasOne16]
@[simp] theorem scasOne16_pc (d : Word) (s : State) : (scasOne16 d s).pc = s.pc := by simp [scasOne16]
@[simp] theorem scasOne16_vector (d : Word) (s : State) : (scasOne16 d s).vector = s.vector := by simp [scasOne16]
@[simp] theorem scasOne16_halted (d : Word) (s : State) : (scasOne16 d s).halted = s.halted := by simp [scasOne16]
@[simp] theorem scasOne16_noint (d : Word) (s : State) : (scasOne16 d s).noint = s.noint := by simp [scasOne16]
@[simp] theorem scasOne16_segov (d : Word) (s : State) : (scasOne16 d s).segov = s.segov := by simp [scasOne16]
@[simp] theorem scasOne16_rep (d : Word) (s : State) : (scasOne16 d s).rep = s.rep := by simp [scasOne16]
@[simp] theorem scasOne16_map (d : Word) (s : State) : (scasOne16 d s).map = s.map := by simp [scasOne16]
@[simp] theorem scasOne16_latchInt (d : Word) (s : State) : (scasOne16 d s).latchInt = s.latchInt := by simp [scasOne16]
@[simp] theorem scasOne16_latchNmi (d : Word) (s : State) : (scasOne16 d s).latchNmi = s.latchNmi := by simp [scasOne16]
@[simp] theorem scasOne16_trace (d : Word) (s : State) : (scasOne16 d s).trace = s.trace := by simp [scasOne16]
@[simp] theorem scasOne16_mem (d : Word) (s : State) : (scasOne16 d s).mem = s.mem := by simp [scasOne16]
@[simp] theorem scasOne16_sreg (d : Word) (s : State) (j' : SReg) : (scasOne16 d s).sreg j' = s.sreg j' := by
  cases j' <;> simp [State.sreg]

@[simp] theorem movsOne16_regs (src : SReg) (d : Word) (s : State) :
    (movsOne16 src d s).regs = { s.regs with si := s.regs.si + d, di := s.regs.di + d } := by simp [movsOne16]
@[simp] theorem cmpsOne16_regs (src : SReg) (d : Word) (s : State) :
    (cmpsOne16 src d s).regs = { s.regs with si := s.regs.si + d, di := s.regs.di + d } := by simp [cmpsOne16]
@[simp] theorem stosOne16_regs (d : Word) (s : State) :
    (stosOne16 d s).regs = { s.regs with di := s.regs.di + d } := by simp [stosOne16]
@[simp] theorem scasOne16_regs (d : Word) (s : State) :
    (scasOne16 d s).regs = { s.regs with di := s.regs.di + d } := by simp [scasOne16]

end Sys2Proof.Laws
end

