-- ==== Sys2Proof/Laws/Frames.lean ====
section
/-! SUPPORT. Relations between the states before and after an operation, closed under composition, and each shared operation
in them: `Controller` (where no address is a device, no handler state changes), `Sound` (the fixed bits of FLAGS and the
canonical form of memory are kept), `Stores as` (memory changes at most at the addresses `as`). And the induction over a
repeated string instruction. -/

namespace Sys2Proof.Laws

open Sys2Proof Sys2Proof.Machine

/-! ### Repetition (44_string R241) -/

/-- A relation kept by the element, by the decrement of CX and by composition is kept by the whole repetition. -/
theorem repeatLoop_rel {P : State → State → Prop} (refl : ∀ a, P a a) (trans : ∀ a b c, P a b → P b c → P a c)
    {one : State → State} (hone : ∀ a, P a (one a)) (hdec : ∀ a, P a (decCx a)) (stop : State → Bool) (fuel : Nat)
    (s : State) : P s (repeatLoop one stop fuel s) := by
  induction fuel generalizing s with
  | zero => exact refl s
  | succ fuel ih =>
    have hstep : P s (decCx (one s)) := trans _ _ _ (hone s) (hdec _)
    unfold repeatLoop
    split
    · exact refl s
    · dsimp only
      split
      · exact hstep
      · exact trans _ _ _ hstep (ih _)

theorem repeatPlain_rel {P : State → State → Prop} (refl : ∀ a, P a a) (trans : ∀ a b c, P a b → P b c → P a c)
    {one : State → State} (hone : ∀ a, P a (one a)) (hdec : ∀ a, P a (decCx a)) (s : State) :
    P s (repeatPlain one s) := by
  unfold repeatPlain
  split
  · exact hone s
  · exact repeatLoop_rel refl trans hone hdec _ _ s

theorem repeatCompare_rel {P : State → State → Prop} (refl : ∀ a, P a a) (trans : ∀ a b c, P a b → P b c → P a c)
    {one : State → State} (hone : ∀ a, P a (one a)) (hdec : ∀ a, P a (decCx a)) (s : State) :
    P s (repeatCompare one s) := by
  unfold repeatCompare
  split
  · exact hone s
  · exact repeatLoop_rel refl trans hone hdec _ _ s

/-! ### `exec` always answers a next state -/

theorem exec_next (i : Instr) (s : State) : ∃ t, exec i s = .next t := by
  cases i <;> exact ⟨_, rfl⟩

/-! ### The controller where no address is a device -/

/-- What only handler calls change (20_memory R57, 60_exceptions R325, R333). -/
def controllerOf (s : State) : BitVec 2 × Bool × Bool × Bool × List DevAnswer × List DevEvent :=
  (s.pending, s.lineInt, s.lineNmi, s.resetReq, s.devScript, s.devLog)

theorem sameController_iff (s t : State) : SameController s t ↔ controllerOf t = controllerOf s := by
  simp [controllerOf]

@[simp] theorem controllerOf_setReg16 (r : Reg16) (v : Word) (s : State) :
    controllerOf (setReg16 r v s) = controllerOf s := by cases r <;> rfl
@[simp] theorem controllerOf_setReg8 (r : Reg8) (v : Byte) (s : State) :
    controllerOf (setReg8 r v s) = controllerOf s := by simp [setReg8]
@[simp] theorem controllerOf_setSreg (j : SReg) (v : Word) (s : State) :
    controllerOf (setSreg j v s) = controllerOf s := by cases j <;> rfl
@[simp] theorem controllerOf_setFlags (f : Word) (s : State) : controllerOf (setFlags f s) = controllerOf s := rfl
@[simp] theorem controllerOf_setFlag (x : Flag) (b : Bool) (s : State) :
    controllerOf (setFlag x b s) = controllerOf s := rfl
@[simp] theorem controllerOf_setPc (v : Word) (s : State) : controllerOf (setPc v s) = controllerOf s := rfl
@[simp] theorem controllerOf_decCx (s : State) : controllerOf (decCx s) = controllerOf s := rfl
@[simp] theorem controllerOf_advanceSi (d : Word) (s : State) : controllerOf (advanceSi d s) = controllerOf s := rfl
@[simp] theorem controllerOf_advanceDi (d : Word) (s : State) : controllerOf (advanceDi d s) = controllerOf s := rfl

@[simp] theorem controllerOf_read8 (a : Addr) {s : State} (h : ∀ a, isDevice s.map a = false) :
    controllerOf (read8 a s).2 = controllerOf s := by rw [read8_of_not_isDevice (h a)]

@[simp] theorem controllerOf_write8 (a : Addr) (v : Byte) {s : State} (h : ∀ a, isDevice s.map a = false) :
    controllerOf (write8 a v s) = controllerOf s := by
  rw [write8_of_not_isDevice v (h a)]
  split <;> rfl

@[simp] theorem controllerOf_memRead (addr n : Nat) {s : State} (h : ∀ a, isDevice s.map a = false) :
    controllerOf (memRead addr n s).2 = controllerOf s := by
  induction n generalizing addr s with
  | zero => rfl
  | succ n ih =>
    rw [memRead]
    simp [ih, h]

@[simp] theorem controllerOf_segRead8 (j : SReg) (off : Word) {s : State} (h : ∀ a, isDevice s.map a = false) :
    controllerOf ((segRead8 j off s).2) = controllerOf s := by
  simp [segRead8, h]

@[simp] theorem controllerOf_segRead16 (j : SReg) (off : Word) {s : State} (h : ∀ a, isDevice s.map a = false) :
    controllerOf ((segRead16 j off s).2) = controllerOf s := by
  simp [segRead16, h]

@[simp] theorem controllerOf_segWrite8 (j : SReg) (off : Word) (v : Byte) {s : State} (h : ∀ a, isDevice s.map a = false) :
    controllerOf (segWrite8 j off v s) = controllerOf s := by
  simp [segWrite8, h]

@[simp] theorem controllerOf_segWrite16 (j : SReg) (off v : Word) {s : State} (h : ∀ a, isDevice s.map a = false) :
    controllerOf (segWrite16 j off v s) = controllerOf s := by
  simp [segWrite16, h]

@[simp] theorem controllerOf_readPlace8 (p : Place8) {s : State} (h : ∀ a, isDevice s.map a = false) :
    controllerOf ((readPlace8 p s).2) = controllerOf s := by
  cases p <;> simp [readPlace8, h]

@[simp] theorem controllerOf_writePlace8 (p : Place8) (v : Byte) {s : State} (h : ∀ a, isDevice s.map a = false) :
    controllerOf (writePlace8 p v s) = controllerOf s := by
  cases p <;> simp [writePlace8, h]

@[simp] theorem controllerOf_readPlace16 (p : Place16) {s : State} (h : ∀ a, isDevice s.map a = false) :
    controllerOf ((readPlace16 p s).2) = controllerOf s := by
  cases p <;> simp [readPlace16, h]

@[simp] theorem controllerOf_writePlace16 (p : Place16) (v : Word) {s : State} (h : ∀ a, isDevice s.map a = false) :
    controllerOf (writePlace16 p v s) = controllerOf s := by
  cases p <;> simp [writePlace16, h]

@[simp] theorem controllerOf_readFar (m : MemRef) {s : State} (h : ∀ a, isDevice s.map a = false) :
    controllerOf ((readFar m s).2) = controllerOf s := by
  simp [readFar, h]

@[simp] theorem controllerOf_push (v : Word) {s : State} (h : ∀ a, isDevice s.map a = false) :
    controllerOf (push v s) = controllerOf s := by
  simp [push, h]

@[simp] theorem controllerOf_pushSp  {s : State} (h : ∀ a, isDevice s.map a = false) :
    controllerOf (pushSp s) = controllerOf s := by
  simp [pushSp, h]

@[simp] theorem controllerOf_pop  {s : State} (h : ∀ a, isDevice s.map a = false) :
    controllerOf ((pop s).2) = controllerOf s := by
  simp [pop, h]

@[simp] theorem controllerOf_trap (n : Byte) (ret : Word) {s : State} (h : ∀ a, isDevice s.map a = false) :
    controllerOf (trap n ret s) = controllerOf s := by
  simp [trap, h]

@[simp] theorem controllerOf_trapReturn  {s : State} (h : ∀ a, isDevice s.map a = false) :
    controllerOf (trapReturn s) = controllerOf s := by
  simp [trapReturn, h]

@[simp] theorem controllerOf_returnFar  {s : State} (h : ∀ a, isDevice s.map a = false) :
    controllerOf (returnFar s) = controllerOf s := by
  simp [returnFar, jumpFar, h]

@[simp] theorem controllerOf_aluPlace8 (op : AluOp) (p : Place8) (b : Byte) {s : State} (h : ∀ a, isDevice s.map a = false) :
    controllerOf (aluPlace8 op p b s) = controllerOf s := by
  cases op <;> simp [aluPlace8, aluWrites, h]

@[simp] theorem controllerOf_aluReg8 (op : AluOp) (reg : Reg8) (p : Place8) {s : State} (h : ∀ a, isDevice s.map a = false) :
    controllerOf (aluReg8 op reg p s) = controllerOf s := by
  cases op <;> simp [aluReg8, aluWrites, h]

@[simp] theorem controllerOf_unaryPlace8 (f : Byte → Word → Byte × Word) (p : Place8) {s : State} (h : ∀ a, isDevice s.map a = false) :
    controllerOf (unaryPlace8 f p s) = controllerOf s := by
  simp [unaryPlace8, h]

@[simp] theorem controllerOf_testPlace8 (p : Place8) (b : Byte) {s : State} (h : ∀ a, isDevice s.map a = false) :
    controllerOf (testPlace8 p b s) = controllerOf s := by
  simp [testPlace8, h]

@[simp] theorem controllerOf_shiftPlace8 (op : ShiftOp) (raw : Byte) (p : Place8) {s : State} (h : ∀ a, isDevice s.map a = false) :
    controllerOf (shiftPlace8 op raw p s) = controllerOf s := by
  unfold shiftPlace8; dsimp only; split <;> simp [h]

@[simp] theorem controllerOf_notPlace8 (p : Place8) {s : State} (h : ∀ a, isDevice s.map a = false) :
    controllerOf (notPlace8 p s) = controllerOf s := by
  simp [notPlace8, h]

@[simp] theorem controllerOf_xchgPlace8 (p : Place8) (reg : Reg8) {s : State} (h : ∀ a, isDevice s.map a = false) :
    controllerOf (xchgPlace8 p reg s) = controllerOf s := by
  simp [xchgPlace8, h]

@[simp] theorem controllerOf_aluPlace16 (op : AluOp) (p : Place16) (b : Word) {s : State} (h : ∀ a, isDevice s.map a = false) :
    controllerOf (aluPlace16 op p b s) = controllerOf s := by
  cases op <;> simp [aluPlace16, aluWrites, h]

@[simp] theorem controllerOf_aluReg16 (op : AluOp) (reg : Reg16) (p : Place16) {s : State} (h : ∀ a, isDevice s.map a = false) :
    controllerOf (aluReg16 op reg p s) = controllerOf s := by
  cases op <;> simp [aluReg16, aluWrites, h]

@[simp] theorem controllerOf_unaryPlace16 (f : Word → Word → Word × Word) (p : Place16) {s : State} (h : ∀ a, isDevice s.map a = false) :
    controllerOf (unaryPlace16 f p s) = controllerOf s := by
  simp [unaryPlace16, h]

@[simp] theorem controllerOf_testPlace16 (p : Place16) (b : Word) {s : State} (h : ∀ a, isDevice s.map a = false) :
    controllerOf (testPlace16 p b s) = controllerOf s := by
  simp [testPlace16, h]

@[simp] theorem controllerOf_shiftPlace16 (op : ShiftOp) (raw : Byte) (p : Place16) {s : State} (h : ∀ a, isDevice s.map a = false) :
    controllerOf (shiftPlace16 op raw p s) = controllerOf s := by
  unfold shiftPlace16; dsimp only; split <;> simp [h]

@[simp] theorem controllerOf_notPlace16 (p : Place16) {s : State} (h : ∀ a, isDevice s.map a = false) :
    controllerOf (notPlace16 p s) = controllerOf s := by
  simp [notPlace16, h]

@[simp] theorem controllerOf_xchgPlace16 (p : Place16) (reg : Reg16) {s : State} (h : ∀ a, isDevice s.map a = false) :
    controllerOf (xchgPlace16 p reg s) = controllerOf s := by
  simp [xchgPlace16, h]

@[simp] theorem controllerOf_pushPlace16 (p : Place16) {s : State} (h : ∀ a, isDevice s.map a = false) :
    controllerOf (pushPlace16 p s) = controllerOf s := by
  unfold pushPlace16; dsimp only; split <;> simp [h]

@[simp] theorem controllerOf_popPlace16 (p : Place16) {s : State} (h : ∀ a, isDevice s.map a = false) :
    controllerOf (popPlace16 p s) = controllerOf s := by
  simp [popPlace16, h]

@[simp] theorem controllerOf_movsOne8 (src : SReg) (d : Word) {s : State} (h : ∀ a, isDevice s.map a = false) :
    controllerOf (movsOne8 src d s) = controllerOf s := by
  simp [movsOne8, h]

@[simp] theorem controllerOf_cmpsOne8 (src : SReg) (d : Word) {s : State} (h : ∀ a, isDevice s.map a = false) :
    controllerOf (cmpsOne8 src d s) = controllerOf s := by
  simp [cmpsOne8, h]

@[simp] theorem controllerOf_stosOne8 (d : Word) {s : State} (h : ∀ a, isDevice s.map a = false) :
    controllerOf (stosOne8 d s) = controllerOf s := by
  simp [stosOne8, h]

@[simp] theorem controllerOf_lodsOne8 (src : SReg) (d : Word) {s : State} (h : ∀ a, isDevice s.map a = false) :
    controllerOf (lodsOne8 src d s) = controllerOf s := by
  simp [lodsOne8, h]

@[simp] theorem controllerOf_scasOne8 (d : Word) {s : State} (h : ∀ a, isDevice s.map a = false) :
    controllerOf (scasOne8 d s) = controllerOf s := by
  simp [scasOne8, h]

@[simp] theorem controllerOf_movsOne16 (src : SReg) (d : Word) {s : State} (h : ∀ a, isDevice s.map a = false) :
    controllerOf (movsOne16 src d s) = controllerOf s := by
  simp [movsOne16, h]

@[simp] theorem controllerOf_cmpsOne16 (src : SReg) (d : Word) {s : State} (h : ∀ a, isDevice s.map a = false) :
    controllerOf (cmpsOne16 src d s) = controllerOf s := by
  simp [cmpsOne16, h]

@[simp] theorem controllerOf_stosOne16 (d : Word) {s : State} (h : ∀ a, isDevice s.map a = false) :
    controllerOf (stosOne16 d s) = controllerOf s := by
  simp [stosOne16, h]

@[simp] theorem controllerOf_lodsOne16 (src : SReg) (d : Word) {s : State} (h : ∀ a, isDevice s.map a = false) :
    controllerOf (lodsOne16 src d s) = controllerOf s := by
  simp [lodsOne16, h]

@[simp] theorem controllerOf_scasOne16 (d : Word) {s : State} (h : ∀ a, isDevice s.map a = false) :
    controllerOf (scasOne16 d s) = controllerOf s := by
  simp [scasOne16, h]

/-! ### FLAGS after each operation, and its fixed bits -/

@[simp] theorem aluPlace8_flags (op : AluOp) (p : Place8) (b : Byte) (s : State) :
    (aluPlace8 op p b s).flags = (aluOp op (readPlace8 p s).1 b s.flags).2 := by
  cases op <;> simp [aluPlace8, aluWrites]

@[simp] theorem aluReg8_flags (op : AluOp) (reg : Reg8) (p : Place8) (s : State) :
    (aluReg8 op reg p s).flags = (aluOp op (s.reg8 reg) (readPlace8 p s).1 s.flags).2 := by
  cases op <;> simp [aluReg8, aluWrites]

@[simp] theorem unaryPlace8_flags (f : Byte → Word → Byte × Word) (p : Place8) (s : State) :
    (unaryPlace8 f p s).flags = (f (readPlace8 p s).1 s.flags).2 := by
  simp [unaryPlace8]

@[simp] theorem testPlace8_flags (p : Place8) (b : Byte) (s : State) :
    (testPlace8 p b s).flags = logicFlags ((readPlace8 p s).1 &&& b) s.flags := by
  simp [testPlace8]

@[simp] theorem shiftPlace8_flags (op : ShiftOp) (raw : Byte) (p : Place8) (s : State) :
    (shiftPlace8 op raw p s).flags = if shiftCount raw = 0 then s.flags else
      shiftFlags op (shiftSteps op (shiftCount raw) (readPlace8 p s).1 (getFlag .CF s.flags)).1
        (shiftSteps op (shiftCount raw) (readPlace8 p s).1 (getFlag .CF s.flags)).2 s.flags := by
  unfold shiftPlace8 shiftOp
  dsimp only
  by_cases h : shiftCount raw = 0 <;> simp [h]

@[simp] theorem cmpsOne8_flags (src : SReg) (d : Word) (s : State) :
    (cmpsOne8 src d s).flags = (subOp (segRead8 src s.regs.si s).1
      (segRead8 .es s.regs.di (segRead8 src s.regs.si s).2).1 false s.flags).2 := by
  simp [cmpsOne8]

@[simp] theorem scasOne8_flags (d : Word) (s : State) :
    (scasOne8 d s).flags = (subOp (s.reg8 .al) (segRead8 .es s.regs.di s).1 false s.flags).2 := by
  simp [scasOne8]

@[simp] theorem aluPlace16_flags (op : AluOp) (p : Place16) (b : Word) (s : State) :
    (aluPlace16 op p b s).flags = (aluOp op (readPlace16 p s).1 b s.flags).2 := by
  cases op <;> simp [aluPlace16, aluWrites]

@[simp] theorem aluReg16_flags (op : AluOp) (reg : Reg16) (p : Place16) (s : State) :
    (aluReg16 op reg p s).flags = (aluOp op (s.reg16 reg) (readPlace16 p s).1 s.flags).2 := by
  cases op <;> simp [aluReg16, aluWrites]

@[simp] theorem unaryPlace16_flags (f : Word → Word → Word × Word) (p : Place16) (s : State) :
    (unaryPlace16 f p s).flags = (f (readPlace16 p s).1 s.flags).2 := by
  simp [unaryPlace16]

@[simp] theorem testPlace16_flags (p : Place16) (b : Word) (s : State) :
    (testPlace16 p b s).flags = logicFlags ((readPlace16 p s).1 &&& b) s.flags := by
  simp [testPlace16]

@[simp] theorem shiftPlace16_flags (op : ShiftOp) (raw : Byte) (p : Place16) (s : State) :
    (shiftPlace16 op raw p s).flags = if shiftCount raw = 0 then s.flags else
      shiftFlags op (shiftSteps op (shiftCount raw) (readPlace16 p s).1 (getFlag .CF s.flags)).1
        (shiftSteps op (shiftCount raw) (readPlace16 p s).1 (getFlag .CF s.flags)).2 s.flags := by
  unfold shiftPlace16 shiftOp
  dsimp only
  by_cases h : shiftCount raw = 0 <;> simp [h]

@[simp] theorem cmpsOne16_flags (src : SReg) (d : Word) (s : State) :
    (cmpsOne16 src d s).flags = (subOp (segRead16 src s.regs.si s).1
      (segRead16 .es s.regs.di (segRead16 src s.regs.si s).2).1 false s.flags).2 := by
  simp [cmpsOne16]

@[simp] theorem scasOne16_flags (d : Word) (s : State) :
    (scasOne16 d s).flags = (subOp (s.reg16 .ax) (segRead16 .es s.regs.di s).1 false s.flags).2 := by
  simp [scasOne16]

@[simp] theorem trapReturn_flags (s : State) :
    (trapReturn s).flags = wholeFlags (pop (pop (pop s).2).2).1 := by simp [trapReturn]

/-! ### The canonical form of memory after each operation -/

theorem writePlace8_mem_wf (p : Place8) (v : Byte) {s : State} (h : Memory.wf s.mem = true) :
    Memory.wf (writePlace8 p v s).mem = true := by
  cases p with
  | reg r => simpa [writePlace8] using h
  | mem j off => exact segWrite8_mem_wf j off v h

theorem writePlace16_mem_wf (p : Place16) (v : Word) {s : State} (h : Memory.wf s.mem = true) :
    Memory.wf (writePlace16 p v s).mem = true := by
  cases p with
  | reg r => simpa [writePlace16] using h
  | mem j off => exact segWrite16_mem_wf j off v h

theorem push_mem_wf (v : Word) {s : State} (h : Memory.wf s.mem = true) :
    Memory.wf (push v s).mem = true := by
  exact segWrite16_mem_wf _ _ _ (by simpa using h)

theorem pushSp_mem_wf  {s : State} (h : Memory.wf s.mem = true) :
    Memory.wf (pushSp s).mem = true := by
  exact segWrite16_mem_wf _ _ _ (by simpa using h)

theorem trap_mem_wf (n : Byte) (ret : Word) {s : State} (h : Memory.wf s.mem = true) :
    Memory.wf (trap n ret s).mem = true := by
  have h1 := push_mem_wf s.flags h
  have h2 : Memory.wf (setFlag .TF false (setFlag .IF false (push s.flags s))).mem = true := by simpa using h1
  have h3 := push_mem_wf ret (push_mem_wf (setFlag .TF false (setFlag .IF false (push s.flags s))).segs.cs h2)
  simpa [trap] using h3

theorem aluPlace8_mem_wf (op : AluOp) (p : Place8) (b : Byte) {s : State} (h : Memory.wf s.mem = true) :
    Memory.wf (aluPlace8 op p b s).mem = true := by
  cases op <;> first
    | exact writePlace8_mem_wf p _ (by simpa using h)
    | simpa [aluPlace8, aluWrites] using h

theorem unaryPlace8_mem_wf (f : Byte → Word → Byte × Word) (p : Place8) {s : State} (h : Memory.wf s.mem = true) :
    Memory.wf (unaryPlace8 f p s).mem = true := by
  exact writePlace8_mem_wf p _ (by simpa using h)

theorem shiftPlace8_mem_wf (op : ShiftOp) (raw : Byte) (p : Place8) {s : State} (h : Memory.wf s.mem = true) :
    Memory.wf (shiftPlace8 op raw p s).mem = true := by
  unfold shiftPlace8
  dsimp only
  split
  · simpa using h
  · exact writePlace8_mem_wf p _ (by simpa using h)

theorem notPlace8_mem_wf (p : Place8) {s : State} (h : Memory.wf s.mem = true) :
    Memory.wf (notPlace8 p s).mem = true := by
  exact writePlace8_mem_wf p _ (by simpa using h)

theorem xchgPlace8_mem_wf (p : Place8) (reg : Reg8) {s : State} (h : Memory.wf s.mem = true) :
    Memory.wf (xchgPlace8 p reg s).mem = true := by
  exact writePlace8_mem_wf p _ (by simpa using h)

theorem aluPlace16_mem_wf (op : AluOp) (p : Place16) (b : Word) {s : State} (h : Memory.wf s.mem = true) :
    Memory.wf (aluPlace16 op p b s).mem = true := by
  cases op <;> first
    | exact writePlace16_mem_wf p _ (by simpa using h)
    | simpa [aluPlace16, aluWrites] using h

theorem unaryPlace16_mem_wf (f : Word → Word → Word × Word) (p : Place16) {s : State} (h : Memory.wf s.mem = true) :
    Memory.wf (unaryPlace16 f p s).mem = true := by
  exact writePlace16_mem_wf p _ (by simpa using h)

theorem shiftPlace16_mem_wf (op : ShiftOp) (raw : Byte) (p : Place16) {s : State} (h : Memory.wf s.mem = true) :
    Memory.wf (shiftPlace16 op raw p s).mem = true := by
  unfold shiftPlace16
  dsimp only
  split
  · simpa using h
  · exact writePlace16_mem_wf p _ (by simpa using h)

theorem notPlace16_mem_wf (p : Place16) {s : State} (h : Memory.wf s.mem = true) :
    Memory.wf (notPlace16 p s).mem = true := by
  exact writePlace16_mem_wf p _ (by simpa using h)

theorem xchgPlace16_mem_wf (p : Place16) (reg : Reg16) {s : State} (h : Memory.wf s.mem = true) :
    Memory.wf (xchgPlace16 p reg s).mem = true := by
  exact writePlace16_mem_wf p _ (by simpa using h)

theorem pushPlace16_mem_wf (p : Place16) {s : State} (h : Memory.wf s.mem = true) :
    Memory.wf (pushPlace16 p s).mem = true := by
  unfold pushPlace16
  dsimp only
  split
  · exact pushSp_mem_wf (by simpa using h)
  · exact push_mem_wf _ (by simpa using h)

theorem popPlace16_mem_wf (p : Place16) {s : State} (h : Memory.wf s.mem = true) :
    Memory.wf (popPlace16 p s).mem = true := by
  exact writePlace16_mem_wf p _ (by simpa using h)

theorem movsOne8_mem_wf (src : SReg) (d : Word) {s : State} (h : Memory.wf s.mem = true) :
    Memory.wf (movsOne8 src d s).mem = true := by
  simpa [movsOne8] using segWrite8_mem_wf _ _ _ (by simpa using h)

theorem stosOne8_mem_wf (d : Word) {s : State} (h : Memory.wf s.mem = true) :
    Memory.wf (stosOne8 d s).mem = true := by
  simpa [stosOne8] using segWrite8_mem_wf _ _ _ h

theorem movsOne16_mem_wf (src : SReg) (d : Word) {s : State} (h : Memory.wf s.mem = true) :
    Memory.wf (movsOne16 src d s).mem = true := by
  simpa [movsOne16] using segWrite16_mem_wf _ _ _ (by simpa using h)

theorem stosOne16_mem_wf (d : Word) {s : State} (h : Memory.wf s.mem = true) :
    Memory.wf (stosOne16 d s).mem = true := by
  simpa [stosOne16] using segWrite16_mem_wf _ _ _ h

/-! ### `Stores` -/

/-- MAP stays, and memory changes at most in the cells the addresses `as` select for writing. -/
def Stores (as : List Addr) (s t : State) : Prop :=
  t.map = s.map ∧ ∀ k, (∀ a ∈ as, writeCell s.map a ≠ some k) → Memory.get t.mem k = Memory.get s.mem k

theorem Stores.refl (as : List Addr) (s : State) : Stores as s s := ⟨rfl, fun _ _ => rfl⟩

theorem Stores.trans {as : List Addr} {s t u : State} (h : Stores as s t) (k : Stores as t u) : Stores as s u :=
  ⟨k.1.trans h.1, fun c hc => (k.2 c (by rw [h.1]; exact hc)).trans (h.2 c hc)⟩

theorem Stores.mono {as bs : List Addr} {s t : State} (hs : ∀ a ∈ as, a ∈ bs) (h : Stores as s t) : Stores bs s t :=
  ⟨h.1, fun k hk => h.2 k fun a ha => hk a (hs a ha)⟩

/-- An operation that leaves MAP and memory alone. -/
theorem Stores.of_eq {as : List Addr} {s t : State} (hm : t.map = s.map) (h : t.mem = s.mem) : Stores as s t :=
  ⟨hm, fun k _ => by rw [h]⟩

/-- What `Stores` says of a byte read. -/
theorem Stores.peek8 {as : List Addr} {s t : State} (h : Stores as s t) {x : Addr}
    (hx : ∀ a ∈ as, writeCell s.map a = none ∨ writeCell s.map a ≠ readCell s.map x) :
    Machine.peek8 x t = Machine.peek8 x s := by
  refine peek8_congr h.1 fun k hk => h.2 k fun a ha e => ?_
  rcases hx a ha with h0 | h1
  · rw [h0] at e; cases e
  · exact h1 (by rw [e, hk])

theorem stores_write8 {as : List Addr} {a : Addr} (h : a ∈ as) (v : Byte) (s : State) : Stores as s (write8 a v s) :=
  ⟨by simp, fun k hk => write8_get_ne v (hk a h)⟩

theorem stores_segWrite8 {as : List Addr} {j : SReg} {off : Word} {s : State} (h : ∀ a ∈ segBytes j off 1 s, a ∈ as)
    (v : Byte) : Stores as s (segWrite8 j off v s) :=
  stores_write8 (h _ (by simp [segBytes])) v s

theorem stores_segWrite16 {as : List Addr} {j : SReg} {off : Word} {s : State} (h : ∀ a ∈ segBytes j off 2 s, a ∈ as)
    (v : Word) : Stores as s (segWrite16 j off v s) := by
  refine (stores_write8 (h _ (by simp [segBytes, List.range_succ])) _ s).trans (stores_write8 ?_ _ _)
  have : phys (s.sreg j) (off + 1) ∈ segBytes j off 2 s := by simp [segBytes, List.range_succ]
  simpa using h _ this

/-- `segBytes` depends on the segment register only. -/
theorem segBytes_congr {j : SReg} {s t : State} (h : t.sreg j = s.sreg j) (off : Word) (n : Nat) :
    segBytes j off n t = segBytes j off n s := by
  simp [segBytes, h]

/-- The bytes of an `r/m` operand's place in memory. -/
def placeBytes8 (p : Place8) (s : State) : List Addr :=
  match p with
  | .reg _ => []
  | .mem j off => segBytes j off 1 s

/-- The bytes of an `r/m` operand's place in memory. -/
def placeBytes16 (p : Place16) (s : State) : List Addr :=
  match p with
  | .reg _ => []
  | .mem j off => segBytes j off 2 s

theorem rmStore8_eq (rm : Rm8) (s : State) : rmStore8 rm s = placeBytes8 (place8 rm s) s := by cases rm <;> rfl

theorem rmStore16_eq (rm : Rm16) (s : State) : rmStore16 rm s = placeBytes16 (place16 rm s) s := by cases rm <;> rfl

theorem stores_writePlace8 {as : List Addr} {p : Place8} {s : State} (h : ∀ a ∈ placeBytes8 p s, a ∈ as)
    (v : Byte) : Stores as s (writePlace8 p v s) := by
  cases p with
  | reg r => exact .of_eq (by simp) (by simp [writePlace8])
  | mem j off => exact stores_segWrite8 h v

theorem placeBytes8_congr {s t : State} (h : ∀ j, t.sreg j = s.sreg j) (p : Place8) :
    placeBytes8 p t = placeBytes8 p s := by
  cases p with
  | reg r => rfl
  | mem j off => exact segBytes_congr (h j) off 1

/-- A write of a place after an operation that leaves the stores, MAP and the segment registers alone. -/
theorem stores_writePlace8_after {p : Place8} {s t : State} (hm : t.map = s.map) (h : t.mem = s.mem)
    (hj : ∀ j, t.sreg j = s.sreg j) (v : Byte) : Stores (placeBytes8 p s) s (writePlace8 p v t) :=
  Stores.trans (t := t) (.of_eq hm h) (stores_writePlace8 (by rw [placeBytes8_congr hj]; exact fun _ h => h) v)

theorem stores_aluPlace8 (op : AluOp) (p : Place8) (b : Byte) (s : State) :
    Stores (placeBytes8 p s) s (aluPlace8 op p b s) := by
  cases op <;> first
    | exact stores_writePlace8_after (by simp) (by simp) (by simp) _
    | exact .of_eq (by simp) (by simp [aluPlace8, aluWrites])

theorem stores_unaryPlace8 (f : Byte → Word → Byte × Word) (p : Place8) (s : State) :
    Stores (placeBytes8 p s) s (unaryPlace8 f p s) :=
  stores_writePlace8_after (by simp) (by simp) (by simp) _

theorem stores_notPlace8 (p : Place8) (s : State) : Stores (placeBytes8 p s) s (notPlace8 p s) :=
  stores_writePlace8_after (by simp) (by simp) (by simp) _

theorem stores_xchgPlace8 (p : Place8) (reg : Reg8) (s : State) :
    Stores (placeBytes8 p s) s (xchgPlace8 p reg s) :=
  stores_writePlace8_after (by simp) (by simp) (by simp) _

theorem stores_shiftPlace8 (op : ShiftOp) (raw : Byte) (p : Place8) (s : State) :
    Stores (if shiftCount raw = 0 then [] else placeBytes8 p s) s (shiftPlace8 op raw p s) := by
  unfold shiftPlace8 shiftOp
  dsimp only
  by_cases h : shiftCount raw = 0
  · simp only [h, ↓reduceIte]
    exact .of_eq (by simp) (by simp)
  · simp only [h, ↓reduceIte]
    exact stores_writePlace8_after (by simp) (by simp) (by simp) _

theorem stores_writePlace16 {as : List Addr} {p : Place16} {s : State} (h : ∀ a ∈ placeBytes16 p s, a ∈ as)
    (v : Word) : Stores as s (writePlace16 p v s) := by
  cases p with
  | reg r => exact .of_eq (by simp) (by simp [writePlace16])
  | mem j off => exact stores_segWrite16 h v

theorem placeBytes16_congr {s t : State} (h : ∀ j, t.sreg j = s.sreg j) (p : Place16) :
    placeBytes16 p t = placeBytes16 p s := by
  cases p with
  | reg r => rfl
  | mem j off => exact segBytes_congr (h j) off 2

/-- A write of a place after an operation that leaves the stores, MAP and the segment registers alone. -/
theorem stores_writePlace16_after {p : Place16} {s t : State} (hm : t.map = s.map) (h : t.mem = s.mem)
    (hj : ∀ j, t.sreg j = s.sreg j) (v : Word) : Stores (placeBytes16 p s) s (writePlace16 p v t) :=
  Stores.trans (t := t) (.of_eq hm h) (stores_writePlace16 (by rw [placeBytes16_congr hj]; exact fun _ h => h) v)

theorem stores_aluPlace16 (op : AluOp) (p : Place16) (b : Word) (s : State) :
    Stores (placeBytes16 p s) s (aluPlace16 op p b s) := by
  cases op <;> first
    | exact stores_writePlace16_after (by simp) (by simp) (by simp) _
    | exact .of_eq (by simp) (by simp [aluPlace16, aluWrites])

theorem stores_unaryPlace16 (f : Word → Word → Word × Word) (p : Place16) (s : State) :
    Stores (placeBytes16 p s) s (unaryPlace16 f p s) :=
  stores_writePlace16_after (by simp) (by simp) (by simp) _

theorem stores_notPlace16 (p : Place16) (s : State) : Stores (placeBytes16 p s) s (notPlace16 p s) :=
  stores_writePlace16_after (by simp) (by simp) (by simp) _

theorem stores_xchgPlace16 (p : Place16) (reg : Reg16) (s : State) :
    Stores (placeBytes16 p s) s (xchgPlace16 p reg s) :=
  stores_writePlace16_after (by simp) (by simp) (by simp) _

theorem stores_shiftPlace16 (op : ShiftOp) (raw : Byte) (p : Place16) (s : State) :
    Stores (if shiftCount raw = 0 then [] else placeBytes16 p s) s (shiftPlace16 op raw p s) := by
  unfold shiftPlace16 shiftOp
  dsimp only
  by_cases h : shiftCount raw = 0
  · simp only [h, ↓reduceIte]
    exact .of_eq (by simp) (by simp)
  · simp only [h, ↓reduceIte]
    exact stores_writePlace16_after (by simp) (by simp) (by simp) _

theorem stores_push {as : List Addr} {s : State} (h : ∀ a ∈ segBytes .ss (s.regs.sp - 2) 2 s, a ∈ as) (v : Word) :
    Stores as s (push v s) := by
  refine Stores.trans (t := setReg16 .sp (s.regs.sp - 2) s) (.of_eq (by simp) (by simp)) (stores_segWrite16 ?_ v)
  rw [segBytes_congr (s := s) (by simp)]
  exact h

theorem stores_pushSp {as : List Addr} {s : State} (h : ∀ a ∈ segBytes .ss (s.regs.sp - 2) 2 s, a ∈ as) :
    Stores as s (pushSp s) := by
  refine Stores.trans (t := setReg16 .sp (s.regs.sp - 2) s) (.of_eq (by simp) (by simp)) (stores_segWrite16 ?_ _)
  rw [segBytes_congr (s := s) (by simp)]
  exact h

theorem stores_pushPlace16 (p : Place16) (s : State) :
    Stores (segBytes .ss (s.regs.sp - 2) 2 s) s (pushPlace16 p s) := by
  have hr : Stores (segBytes .ss (s.regs.sp - 2) 2 s) s (readPlace16 p s).2 := .of_eq (by simp) (by simp)
  have hs : segBytes .ss ((readPlace16 p s).2.regs.sp - 2) 2 (readPlace16 p s).2 =
      segBytes .ss (s.regs.sp - 2) 2 s := by
    rw [segBytes_congr (s := s) (by simp)]; simp
  unfold pushPlace16
  dsimp only
  split
  · exact hr.trans (stores_pushSp (by rw [hs]; exact fun _ h => h))
  · exact hr.trans (stores_push (by rw [hs]; exact fun _ h => h) _)

theorem stores_popPlace16 (p : Place16) (s : State) : Stores (placeBytes16 p s) s (popPlace16 p s) :=
  stores_writePlace16_after (by simp) (by simp) (by simp) _

/-- The bytes of a word within a longer run at the same segment. -/
theorem segBytes_sub {j : SReg} {off off' : Word} {n m i : Nat} {s : State} (ho : off' = off + BitVec.ofNat 16 i)
    (hi : i + n ≤ m) : ∀ a ∈ segBytes j off' n s, a ∈ segBytes j off m s := by
  intro a ha
  simp only [segBytes, List.mem_map, List.mem_range] at ha ⊢
  obtain ⟨k, hk, rfl⟩ := ha
  refine ⟨i + k, by omega, ?_⟩
  rw [ho, BitVec.add_assoc, ← BitVec.ofNat_add]

theorem stores_push_push (v w : Word) (s : State) :
    Stores (segBytes .ss (s.regs.sp - 4) 4 s) s (push w (push v s)) := by
  refine (stores_push (segBytes_sub (i := 2) (by bv_omega) (by omega)) v).trans (stores_push ?_ w)
  rw [segBytes_congr (s := s) (by simp)]
  exact segBytes_sub (i := 0) (by simp; bv_omega) (by omega)

theorem stores_callFarTo (off seg : Word) (s : State) :
    Stores (segBytes .ss (s.regs.sp - 4) 4 s) s (callFarTo off seg s) :=
  (stores_push_push s.segs.cs s.pc s).trans (.of_eq (by simp [callFarTo]) (by simp [callFarTo]))

theorem stores_callPointer (m : MemRef) (s : State) :
    Stores (segBytes .ss (s.regs.sp - 4) 4 s) s (callPointer (readFar m s)) := by
  have hr : Stores (segBytes .ss (s.regs.sp - 4) 4 s) s (readFar m s).2 := .of_eq (by simp) (by simp)
  refine hr.trans (Stores.mono ?_ (stores_callFarTo _ _ _))
  rw [segBytes_congr (s := s) (by simp)]
  simp

theorem stores_trap (n : Byte) (ret : Word) (s : State) :
    Stores (segBytes .ss (s.regs.sp - 6) 6 s) s (trap n ret s) := by
  have h1 : Stores (segBytes .ss (s.regs.sp - 6) 6 s) s (setFlag .TF false (setFlag .IF false (push s.flags s))) :=
    (stores_push (segBytes_sub (i := 4) (by bv_omega) (by omega)) s.flags).trans (.of_eq (by simp) (by simp))
  have h2 := Stores.mono (bs := segBytes .ss (s.regs.sp - 6) 6 s) ?_ (stores_push_push
    (setFlag .TF false (setFlag .IF false (push s.flags s))).segs.cs ret
    (setFlag .TF false (setFlag .IF false (push s.flags s))))
  · exact (h1.trans h2).trans (.of_eq (by simp [trap]) (by simp [trap]))
  · rw [segBytes_congr (s := s) (by simp)]
    exact segBytes_sub (i := 0) (by simp; bv_omega) (by omega)

end Sys2Proof.Laws
end

