-- ==== Sys2Proof/Laws/Irq.lean ====
section
/-! SUPPORT. The `set_irq_line` calls of one handler answer (20_memory R57, 60_exceptions R325): they change the lines and PENDING
alone, and do not depend on what else the call notes. -/

namespace Sys2Proof.Laws

open Sys2Proof Sys2Proof.Machine

/-- The calls of an answer, in order. -/
abbrev irqCalls (l : List IrqCall) (s : State) : State := l.foldl (fun t c => setIrqLine c.line c.level t) s

/-- `set_irq_line` changes the lines and PENDING alone. -/
theorem setIrqLine_eq (line level : Nat) (s : State) : setIrqLine line level s = { s with
    lineInt := (setIrqLine line level s).lineInt
    lineNmi := (setIrqLine line level s).lineNmi
    pending := (setIrqLine line level s).pending } := by
  rcases line with _ | _ | _ <;> rfl

/-- So do any number of calls. -/
theorem irqCalls_eq (l : List IrqCall) : ∀ s : State, irqCalls l s = { s with
    lineInt := (irqCalls l s).lineInt
    lineNmi := (irqCalls l s).lineNmi
    pending := (irqCalls l s).pending } := by
  induction l with
  | nil => exact fun _ => rfl
  | cons c l ih =>
    intro s
    have h := ih (setIrqLine c.line c.level s)
    have hs := setIrqLine_eq c.line c.level s
    simp only [irqCalls, List.foldl_cons] at *
    rw [h, hs]

/-- A call does not depend on the reset latch and the device records, and keeps them. -/
theorem setIrqLine_note (line level : Nat) (s : State) (r : Bool) (script : List DevAnswer) (log : List DevEvent) :
    setIrqLine line level { s with resetReq := r, devScript := script, devLog := log } =
      { setIrqLine line level s with resetReq := r, devScript := script, devLog := log } := by
  rcases line with _ | _ | _ <;> rfl

theorem irqCalls_note (l : List IrqCall) (r : Bool) (script : List DevAnswer) (log : List DevEvent) : ∀ s : State,
    irqCalls l { s with resetReq := r, devScript := script, devLog := log } =
      { irqCalls l s with resetReq := r, devScript := script, devLog := log } := by
  induction l with
  | nil => exact fun _ => rfl
  | cons c l ih => exact fun s => by simp only [irqCalls, List.foldl_cons, setIrqLine_note] at *; exact ih _

end Sys2Proof.Laws
end

