-- ==== Sys2Proof/Laws/Peek.lean ====
section
/-! SUPPORT. Segmented accesses through `peek8`: off the devices a read answers the byte or word that stands there and changes
nothing; a write to RAM changes the stores alone, is read back, and leaves every byte of another cell (20_memory R56, R63,
R64, R79). -/

namespace Sys2Proof.Laws

open Sys2Proof Sys2Proof.Machine

/-- `quiet`, address by address. -/
theorem quiet_iff {as : List Addr} {s : State} : quiet as s = true ↔ ∀ a ∈ as, isDevice s.map a = false := by
  simp [quiet]

/-- `onRam`, address by address. -/
theorem onRam_iff {as : List Addr} {s : State} : onRam as s = true ↔
    (∀ a ∈ as, (writeCell s.map a).isSome = true) ∧ (as.map (writeCell s.map)).Nodup := by
  simp [onRam]

/-- RAM is no device. -/
theorem quiet_of_onRam {as : List Addr} {s : State} (h : onRam as s = true) : quiet as s = true := by
  rw [quiet_iff]
  intro a ha
  obtain ⟨k, hk⟩ := Option.isSome_iff_exists.mp ((onRam_iff.mp h).1 a ha)
  exact not_isDevice_of_writeCell hk

/-- The two bytes of a word. -/
theorem segBytes_two (j : SReg) (off : Word) (s : State) :
    segBytes j off 2 s = [phys (s.sreg j) off, phys (s.sreg j) (off + 1)] := by
  simp [segBytes, List.range_succ]

/-- A byte is one address. -/
theorem segBytes_one (j : SReg) (off : Word) (s : State) : segBytes j off 1 s = [phys (s.sreg j) off] := by
  simp [segBytes, List.range_succ]

/-- A read of one byte off the devices. -/
theorem segRead8_of_quiet {j : SReg} {off : Word} {s : State} (h : quiet (segBytes j off 1 s) s = true) :
    segRead8 j off s = (peekByte j off s, s) := by
  rw [segBytes_one, quiet_iff] at h
  exact read8_of_not_isDevice (h _ (by simp))

/-- A read of a word off the devices (20_memory R63). -/
theorem segRead16_of_quiet {j : SReg} {off : Word} {s : State} (h : quiet (segBytes j off 2 s) s = true) :
    segRead16 j off s = (peekWord j off s, s) := by
  rw [segBytes_two, quiet_iff] at h
  simp only [segRead16, read8_of_not_isDevice (h (phys (s.sreg j) off) (by simp)),
    read8_of_not_isDevice (h (phys (s.sreg j) (off + 1)) (by simp))]
  rfl

/-- A byte write to RAM changes the stores alone. -/
theorem write8_onRam {a : Addr} {v : Byte} {s : State} (h : (writeCell s.map a).isSome = true) :
    write8 a v s = { s with mem := (write8 a v s).mem } := by
  obtain ⟨k, hk⟩ := Option.isSome_iff_exists.mp h
  rw [write8_of_not_isDevice v (not_isDevice_of_writeCell hk), hk]

/-- A byte write to RAM is read back. -/
theorem peek8_write8 {a : Addr} (v : Byte) {s : State} (hw : Memory.wf s.mem = true)
    (h : (writeCell s.map a).isSome = true) : peek8 a (write8 a v s) = v := by
  obtain ⟨k, hk⟩ := Option.isSome_iff_exists.mp h
  simp [peek8, readCell_of_writeCell hk, write8_get v hw hk]

/-- A byte write leaves every byte of another cell. -/
theorem peek8_write8_ne {a b : Addr} (v : Byte) {s : State}
    (h : writeCell s.map a = none ∨ writeCell s.map a ≠ readCell s.map b) : peek8 b (write8 a v s) = peek8 b s := by
  refine peek8_congr (by simp) fun k hk => write8_get_ne v fun e => ?_
  rcases h with h | h
  · rw [h] at e; simp at e
  · exact h (by rw [e, hk])

/-- Two bytes of RAM whose cells differ. -/
theorem writeCell_ne_readCell {a b : Addr} {s : State} (hb : (writeCell s.map b).isSome = true)
    (h : writeCell s.map a ≠ writeCell s.map b) : writeCell s.map a ≠ readCell s.map b := by
  obtain ⟨k, hk⟩ := Option.isSome_iff_exists.mp hb
  rw [readCell_of_writeCell hk, ← hk]
  exact h

/-- A word written to RAM changes the stores alone. -/
theorem segWrite16_onRam {j : SReg} {off v : Word} {s : State} (h : onRam (segBytes j off 2 s) s = true) :
    segWrite16 j off v s = { s with mem := (segWrite16 j off v s).mem } := by
  rw [segBytes_two, onRam_iff] at h
  unfold segWrite16
  rw [write8_onRam (s := write8 (phys (s.sreg j) off) (loByte v) s) (by simpa using h.1 _ (by simp)),
    write8_onRam (h.1 (phys (s.sreg j) off) (by simp))]

/-- The bytes of a word written to RAM. -/
theorem peekByte_segWrite16 {j : SReg} {off : Word} (v : Word) {s : State} (hw : Memory.wf s.mem = true)
    (h : onRam (segBytes j off 2 s) s = true) :
    peekByte j off (segWrite16 j off v s) = loByte v ∧ peekByte j (off + 1) (segWrite16 j off v s) = hiByte v := by
  rw [segBytes_two, onRam_iff] at h
  obtain ⟨hs, hn⟩ := h
  have hne : writeCell s.map (phys (s.sreg j) off) ≠ writeCell s.map (phys (s.sreg j) (off + 1)) := by
    simpa using hn
  simp only [peekByte, segWrite16_sreg]
  simp only [segWrite16]
  constructor
  · rw [peek8_write8_ne, peek8_write8 _ hw (hs _ (by simp))]
    right
    simpa using writeCell_ne_readCell (hs _ (by simp)) (Ne.symm hne)
  · rw [write8_sreg, peek8_write8 _ (write8_mem_wf _ _ hw) (by simpa using hs _ (by simp))]

/-- A word written to RAM is read back. -/
theorem peekWord_segWrite16 {j : SReg} {off : Word} (v : Word) {s : State} (hw : Memory.wf s.mem = true)
    (h : onRam (segBytes j off 2 s) s = true) : peekWord j off (segWrite16 j off v s) = v := by
  obtain ⟨h0, h1⟩ := peekByte_segWrite16 v hw h
  rw [peekWord, h0, h1]
  simp

/-- A word write leaves every byte of another cell. -/
theorem peek8_segWrite16_ne {j : SReg} {off : Word} (v : Word) {b : Addr} {s : State}
    (h : ∀ a ∈ segBytes j off 2 s, writeCell s.map a = none ∨ writeCell s.map a ≠ readCell s.map b) :
    peek8 b (segWrite16 j off v s) = peek8 b s := by
  rw [segBytes_two] at h
  unfold segWrite16
  rw [peek8_write8_ne, peek8_write8_ne]
  · exact h _ (by simp)
  · simpa using h (phys (s.sreg j) (off + 1)) (by simp)

/-! ### Writes off the devices -/

theorem quiet_append {as bs : List Addr} {s : State} :
    quiet (as ++ bs) s = true ↔ quiet as s = true ∧ quiet bs s = true := by simp [quiet]

/-- Which addresses are devices is a matter of MAP alone. -/
theorem quiet_congr {as : List Addr} {s t : State} (h : t.map = s.map) : quiet as t = quiet as s := by simp [quiet, h]

/-- A byte write off the devices changes the stores alone (20_memory R55, R56). -/
theorem write8_of_quiet {a : Addr} (v : Byte) {s : State} (h : isDevice s.map a = false) :
    write8 a v s = { s with mem := (write8 a v s).mem } := by
  rw [write8_of_not_isDevice v h]
  split <;> rfl

/-- A segmented byte write off the devices changes the stores alone. -/
theorem segWrite8_of_quiet {j : SReg} {off : Word} (v : Byte) {s : State} (h : quiet (segBytes j off 1 s) s = true) :
    segWrite8 j off v s = { s with mem := (segWrite8 j off v s).mem } := by
  rw [segBytes_one, quiet_iff] at h
  exact write8_of_quiet v (h _ (by simp))

/-- A segmented word write off the devices changes the stores alone. -/
theorem segWrite16_of_quiet {j : SReg} {off : Word} (v : Word) {s : State} (h : quiet (segBytes j off 2 s) s = true) :
    segWrite16 j off v s = { s with mem := (segWrite16 j off v s).mem } := by
  rw [segBytes_two, quiet_iff] at h
  have h0 := write8_of_quiet (loByte v) (h (phys (s.sreg j) off) (by simp))
  have h1 := h (phys (s.sreg j) (off + 1)) (by simp)
  simp only [segWrite16]
  rw [h0]
  exact write8_of_quiet (hiByte v) h1

/-- Bytes read off the devices: no state changes (20_memory R58). -/
theorem memRead_of_quiet (n : Nat) : ∀ {addr : Nat} {s : State},
    quiet ((List.range n).map fun k => BitVec.ofNat 20 (addr + k)) s = true → (memRead addr n s).2 = s := by
  induction n with
  | zero => intros; rfl
  | succ n ih =>
    intro addr s h
    rw [quiet_iff] at h
    have h0 : isDevice s.map (BitVec.ofNat 20 addr) = false := h _ (by simp [List.range_succ_eq_map])
    simp only [memRead, read8_of_not_isDevice h0]
    apply ih
    rw [quiet_iff]
    intro a ha
    obtain ⟨k, hk, rfl⟩ := List.mem_map.mp ha
    refine h _ (List.mem_map.mpr ⟨k + 1, by simpa using hk, by congr 1; omega⟩)

/-- A push off the devices changes SP and the stores alone (40_data_transfer R146). -/
theorem push_of_quiet (v : Word) {s : State} (h : quiet (segBytes .ss (s.regs.sp - 2) 2 s) s = true) :
    push v s = { s with regs := { s.regs with sp := s.regs.sp - 2 }, mem := (push v s).mem } := by
  have hq : quiet (segBytes .ss (s.regs.sp - 2) 2 (setReg16 .sp (s.regs.sp - 2) s)) (setReg16 .sp (s.regs.sp - 2) s) = true := h
  exact segWrite16_of_quiet v hq

end Sys2Proof.Laws
end

