-- ==== Sys2Proof/Laws/PerInstr.lean ====
section
/-! SUPPORT. The per-instruction family `EncodingLength`: an item without its prefixes is encoded in one to six bytes
(30_encoding R90), one lemma for each constructor. -/

namespace Sys2Proof.Laws

open Sys2Proof

/-- The encoding of the item is one to six bytes long (30_encoding R90). -/
def EncodingLength.Statement (i : Instr) : Prop := 1 ≤ (encode i).length ∧ (encode i).length ≤ 6

theorem encodeMem_length_le (r : BitVec 3) (m : MemRef) : (encodeMem r m).length ≤ 3 := by
  cases m <;> simp [encodeMem, wordBytes]

theorem encodeRm8_length_le (r : BitVec 3) (rm : Rm8) : (encodeRm8 r rm).length ≤ 3 := by
  cases rm with
  | reg _ => simp [encodeRm8]
  | mem m => exact encodeMem_length_le r m

theorem encodeRm16_length_le (r : BitVec 3) (rm : Rm16) : (encodeRm16 r rm).length ≤ 3 := by
  cases rm with
  | reg _ => simp [encodeRm16]
  | mem m => exact encodeMem_length_le r m

/-- An opcode byte and at most five bytes more. -/
theorem encodingLength_of_cons {i : Instr} {b : Byte} {l : List Byte} (h : encode i = b :: l) (hl : l.length ≤ 5) :
    EncodingLength.Statement i := by
  rw [EncodingLength.Statement, h, List.length_cons]
  omega

/-- An opcode byte, at most three bytes of an operand, and at most two bytes more. -/
theorem encodingLength_of_operand {i : Instr} {b : Byte} {l m : List Byte} (h : encode i = b :: (l ++ m))
    (hl : l.length ≤ 3) (hm : m.length ≤ 2) : EncodingLength.Statement i :=
  encodingLength_of_cons h (by rw [List.length_append]; omega)

theorem EncodingLength.addEbGb (rm : Rm8) (reg : Reg8) : Statement (.addEbGb rm reg) :=
  encodingLength_of_cons rfl ((encodeRm8_length_le _ _).trans (by decide))

theorem EncodingLength.addEwGw (rm : Rm16) (reg : Reg16) : Statement (.addEwGw rm reg) :=
  encodingLength_of_cons rfl ((encodeRm16_length_le _ _).trans (by decide))

theorem EncodingLength.addGbEb (reg : Reg8) (rm : Rm8) : Statement (.addGbEb reg rm) :=
  encodingLength_of_cons rfl ((encodeRm8_length_le _ _).trans (by decide))

theorem EncodingLength.addGwEw (reg : Reg16) (rm : Rm16) : Statement (.addGwEw reg rm) :=
  encodingLength_of_cons rfl ((encodeRm16_length_le _ _).trans (by decide))

theorem EncodingLength.addALIb (imm : Byte) : Statement (.addALIb imm) :=
  encodingLength_of_cons rfl (Nat.le_of_ble_eq_true rfl)

theorem EncodingLength.addAXIw (imm : Word) : Statement (.addAXIw imm) :=
  encodingLength_of_cons rfl (Nat.le_of_ble_eq_true rfl)

theorem EncodingLength.orEbGb (rm : Rm8) (reg : Reg8) : Statement (.orEbGb rm reg) :=
  encodingLength_of_cons rfl ((encodeRm8_length_le _ _).trans (by decide))

theorem EncodingLength.orEwGw (rm : Rm16) (reg : Reg16) : Statement (.orEwGw rm reg) :=
  encodingLength_of_cons rfl ((encodeRm16_length_le _ _).trans (by decide))

theorem EncodingLength.orGbEb (reg : Reg8) (rm : Rm8) : Statement (.orGbEb reg rm) :=
  encodingLength_of_cons rfl ((encodeRm8_length_le _ _).trans (by decide))

theorem EncodingLength.orGwEw (reg : Reg16) (rm : Rm16) : Statement (.orGwEw reg rm) :=
  encodingLength_of_cons rfl ((encodeRm16_length_le _ _).trans (by decide))

theorem EncodingLength.orALIb (imm : Byte) : Statement (.orALIb imm) :=
  encodingLength_of_cons rfl (Nat.le_of_ble_eq_true rfl)

theorem EncodingLength.orAXIw (imm : Word) : Statement (.orAXIw imm) :=
  encodingLength_of_cons rfl (Nat.le_of_ble_eq_true rfl)

theorem EncodingLength.adcEbGb (rm : Rm8) (reg : Reg8) : Statement (.adcEbGb rm reg) :=
  encodingLength_of_cons rfl ((encodeRm8_length_le _ _).trans (by decide))

theorem EncodingLength.adcEwGw (rm : Rm16) (reg : Reg16) : Statement (.adcEwGw rm reg) :=
  encodingLength_of_cons rfl ((encodeRm16_length_le _ _).trans (by decide))

theorem EncodingLength.adcGbEb (reg : Reg8) (rm : Rm8) : Statement (.adcGbEb reg rm) :=
  encodingLength_of_cons rfl ((encodeRm8_length_le _ _).trans (by decide))

theorem EncodingLength.adcGwEw (reg : Reg16) (rm : Rm16) : Statement (.adcGwEw reg rm) :=
  encodingLength_of_cons rfl ((encodeRm16_length_le _ _).trans (by decide))

theorem EncodingLength.adcALIb (imm : Byte) : Statement (.adcALIb imm) :=
  encodingLength_of_cons rfl (Nat.le_of_ble_eq_true rfl)

theorem EncodingLength.adcAXIw (imm : Word) : Statement (.adcAXIw imm) :=
  encodingLength_of_cons rfl (Nat.le_of_ble_eq_true rfl)

theorem EncodingLength.sbbEbGb (rm : Rm8) (reg : Reg8) : Statement (.sbbEbGb rm reg) :=
  encodingLength_of_cons rfl ((encodeRm8_length_le _ _).trans (by decide))

theorem EncodingLength.sbbEwGw (rm : Rm16) (reg : Reg16) : Statement (.sbbEwGw rm reg) :=
  encodingLength_of_cons rfl ((encodeRm16_length_le _ _).trans (by decide))

theorem EncodingLength.sbbGbEb (reg : Reg8) (rm : Rm8) : Statement (.sbbGbEb reg rm) :=
  encodingLength_of_cons rfl ((encodeRm8_length_le _ _).trans (by decide))

theorem EncodingLength.sbbGwEw (reg : Reg16) (rm : Rm16) : Statement (.sbbGwEw reg rm) :=
  encodingLength_of_cons rfl ((encodeRm16_length_le _ _).trans (by decide))

theorem EncodingLength.sbbALIb (imm : Byte) : Statement (.sbbALIb imm) :=
  encodingLength_of_cons rfl (Nat.le_of_ble_eq_true rfl)

theorem EncodingLength.sbbAXIw (imm : Word) : Statement (.sbbAXIw imm) :=
  encodingLength_of_cons rfl (Nat.le_of_ble_eq_true rfl)

theorem EncodingLength.andEbGb (rm : Rm8) (reg : Reg8) : Statement (.andEbGb rm reg) :=
  encodingLength_of_cons rfl ((encodeRm8_length_le _ _).trans (by decide))

theorem EncodingLength.andEwGw (rm : Rm16) (reg : Reg16) : Statement (.andEwGw rm reg) :=
  encodingLength_of_cons rfl ((encodeRm16_length_le _ _).trans (by decide))

theorem EncodingLength.andGbEb (reg : Reg8) (rm : Rm8) : Statement (.andGbEb reg rm) :=
  encodingLength_of_cons rfl ((encodeRm8_length_le _ _).trans (by decide))

theorem EncodingLength.andGwEw (reg : Reg16) (rm : Rm16) : Statement (.andGwEw reg rm) :=
  encodingLength_of_cons rfl ((encodeRm16_length_le _ _).trans (by decide))

theorem EncodingLength.andALIb (imm : Byte) : Statement (.andALIb imm) :=
  encodingLength_of_cons rfl (Nat.le_of_ble_eq_true rfl)

theorem EncodingLength.andAXIw (imm : Word) : Statement (.andAXIw imm) :=
  encodingLength_of_cons rfl (Nat.le_of_ble_eq_true rfl)

theorem EncodingLength.subEbGb (rm : Rm8) (reg : Reg8) : Statement (.subEbGb rm reg) :=
  encodingLength_of_cons rfl ((encodeRm8_length_le _ _).trans (by decide))

theorem EncodingLength.subEwGw (rm : Rm16) (reg : Reg16) : Statement (.subEwGw rm reg) :=
  encodingLength_of_cons rfl ((encodeRm16_length_le _ _).trans (by decide))

theorem EncodingLength.subGbEb (reg : Reg8) (rm : Rm8) : Statement (.subGbEb reg rm) :=
  encodingLength_of_cons rfl ((encodeRm8_length_le _ _).trans (by decide))

theorem EncodingLength.subGwEw (reg : Reg16) (rm : Rm16) : Statement (.subGwEw reg rm) :=
  encodingLength_of_cons rfl ((encodeRm16_length_le _ _).trans (by decide))

theorem EncodingLength.subALIb (imm : Byte) : Statement (.subALIb imm) :=
  encodingLength_of_cons rfl (Nat.le_of_ble_eq_true rfl)

theorem EncodingLength.subAXIw (imm : Word) : Statement (.subAXIw imm) :=
  encodingLength_of_cons rfl (Nat.le_of_ble_eq_true rfl)

theorem EncodingLength.xorEbGb (rm : Rm8) (reg : Reg8) : Statement (.xorEbGb rm reg) :=
  encodingLength_of_cons rfl ((encodeRm8_length_le _ _).trans (by decide))

theorem EncodingLength.xorEwGw (rm : Rm16) (reg : Reg16) : Statement (.xorEwGw rm reg) :=
  encodingLength_of_cons rfl ((encodeRm16_length_le _ _).trans (by decide))

theorem EncodingLength.xorGbEb (reg : Reg8) (rm : Rm8) : Statement (.xorGbEb reg rm) :=
  encodingLength_of_cons rfl ((encodeRm8_length_le _ _).trans (by decide))

theorem EncodingLength.xorGwEw (reg : Reg16) (rm : Rm16) : Statement (.xorGwEw reg rm) :=
  encodingLength_of_cons rfl ((encodeRm16_length_le _ _).trans (by decide))

theorem EncodingLength.xorALIb (imm : Byte) : Statement (.xorALIb imm) :=
  encodingLength_of_cons rfl (Nat.le_of_ble_eq_true rfl)

theorem EncodingLength.xorAXIw (imm : Word) : Statement (.xorAXIw imm) :=
  encodingLength_of_cons rfl (Nat.le_of_ble_eq_true rfl)

theorem EncodingLength.cmpEbGb (rm : Rm8) (reg : Reg8) : Statement (.cmpEbGb rm reg) :=
  encodingLength_of_cons rfl ((encodeRm8_length_le _ _).trans (by decide))

theorem EncodingLength.cmpEwGw (rm : Rm16) (reg : Reg16) : Statement (.cmpEwGw rm reg) :=
  encodingLength_of_cons rfl ((encodeRm16_length_le _ _).trans (by decide))

theorem EncodingLength.cmpGbEb (reg : Reg8) (rm : Rm8) : Statement (.cmpGbEb reg rm) :=
  encodingLength_of_cons rfl ((encodeRm8_length_le _ _).trans (by decide))

theorem EncodingLength.cmpGwEw (reg : Reg16) (rm : Rm16) : Statement (.cmpGwEw reg rm) :=
  encodingLength_of_cons rfl ((encodeRm16_length_le _ _).trans (by decide))

theorem EncodingLength.cmpALIb (imm : Byte) : Statement (.cmpALIb imm) :=
  encodingLength_of_cons rfl (Nat.le_of_ble_eq_true rfl)

theorem EncodingLength.cmpAXIw (imm : Word) : Statement (.cmpAXIw imm) :=
  encodingLength_of_cons rfl (Nat.le_of_ble_eq_true rfl)

theorem EncodingLength.pushES : Statement (.pushES) := encodingLength_of_cons rfl (Nat.le_of_ble_eq_true rfl)

theorem EncodingLength.pushCS : Statement (.pushCS) := encodingLength_of_cons rfl (Nat.le_of_ble_eq_true rfl)

theorem EncodingLength.pushSS : Statement (.pushSS) := encodingLength_of_cons rfl (Nat.le_of_ble_eq_true rfl)

theorem EncodingLength.pushDS : Statement (.pushDS) := encodingLength_of_cons rfl (Nat.le_of_ble_eq_true rfl)

theorem EncodingLength.popES : Statement (.popES) := encodingLength_of_cons rfl (Nat.le_of_ble_eq_true rfl)

theorem EncodingLength.popSS : Statement (.popSS) := encodingLength_of_cons rfl (Nat.le_of_ble_eq_true rfl)

theorem EncodingLength.popDS : Statement (.popDS) := encodingLength_of_cons rfl (Nat.le_of_ble_eq_true rfl)

theorem EncodingLength.incR16 (reg : Reg16) : Statement (.incR16 reg) :=
  encodingLength_of_cons rfl (Nat.le_of_ble_eq_true rfl)

theorem EncodingLength.decR16 (reg : Reg16) : Statement (.decR16 reg) :=
  encodingLength_of_cons rfl (Nat.le_of_ble_eq_true rfl)

theorem EncodingLength.pushR16 (reg : Reg16) : Statement (.pushR16 reg) :=
  encodingLength_of_cons rfl (Nat.le_of_ble_eq_true rfl)

theorem EncodingLength.popR16 (reg : Reg16) : Statement (.popR16 reg) :=
  encodingLength_of_cons rfl (Nat.le_of_ble_eq_true rfl)

theorem EncodingLength.jo (rel : Byte) : Statement (.jo rel) := encodingLength_of_cons rfl (Nat.le_of_ble_eq_true rfl)

theorem EncodingLength.jno (rel : Byte) : Statement (.jno rel) := encodingLength_of_cons rfl (Nat.le_of_ble_eq_true rfl)

theorem EncodingLength.jb (rel : Byte) : Statement (.jb rel) := encodingLength_of_cons rfl (Nat.le_of_ble_eq_true rfl)

theorem EncodingLength.jae (rel : Byte) : Statement (.jae rel) := encodingLength_of_cons rfl (Nat.le_of_ble_eq_true rfl)

theorem EncodingLength.je (rel : Byte) : Statement (.je rel) := encodingLength_of_cons rfl (Nat.le_of_ble_eq_true rfl)

theorem EncodingLength.jne (rel : Byte) : Statement (.jne rel) := encodingLength_of_cons rfl (Nat.le_of_ble_eq_true rfl)

theorem EncodingLength.jbe (rel : Byte) : Statement (.jbe rel) := encodingLength_of_cons rfl (Nat.le_of_ble_eq_true rfl)

theorem EncodingLength.ja (rel : Byte) : Statement (.ja rel) := encodingLength_of_cons rfl (Nat.le_of_ble_eq_true rfl)

theorem EncodingLength.js (rel : Byte) : Statement (.js rel) := encodingLength_of_cons rfl (Nat.le_of_ble_eq_true rfl)

theorem EncodingLength.jns (rel : Byte) : Statement (.jns rel) := encodingLength_of_cons rfl (Nat.le_of_ble_eq_true rfl)

theorem EncodingLength.jp (rel : Byte) : Statement (.jp rel) := encodingLength_of_cons rfl (Nat.le_of_ble_eq_true rfl)

theorem EncodingLength.jnp (rel : Byte) : Statement (.jnp rel) := encodingLength_of_cons rfl (Nat.le_of_ble_eq_true rfl)

theorem EncodingLength.jl (rel : Byte) : Statement (.jl rel) := encodingLength_of_cons rfl (Nat.le_of_ble_eq_true rfl)

theorem EncodingLength.jge (rel : Byte) : Statement (.jge rel) := encodingLength_of_cons rfl (Nat.le_of_ble_eq_true rfl)

theorem EncodingLength.jle (rel : Byte) : Statement (.jle rel) := encodingLength_of_cons rfl (Nat.le_of_ble_eq_true rfl)

theorem EncodingLength.jg (rel : Byte) : Statement (.jg rel) := encodingLength_of_cons rfl (Nat.le_of_ble_eq_true rfl)

theorem EncodingLength.addEbIb (rm : Rm8) (imm : Byte) : Statement (.addEbIb rm imm) :=
  encodingLength_of_operand rfl (encodeRm8_length_le _ _) (Nat.le_of_ble_eq_true rfl)

theorem EncodingLength.addEwIw (rm : Rm16) (imm : Word) : Statement (.addEwIw rm imm) :=
  encodingLength_of_operand rfl (encodeRm16_length_le _ _) (Nat.le_of_ble_eq_true rfl)

theorem EncodingLength.addEwIbs (rm : Rm16) (imm : Byte) : Statement (.addEwIbs rm imm) :=
  encodingLength_of_operand rfl (encodeRm16_length_le _ _) (Nat.le_of_ble_eq_true rfl)

theorem EncodingLength.orEbIb (rm : Rm8) (imm : Byte) : Statement (.orEbIb rm imm) :=
  encodingLength_of_operand rfl (encodeRm8_length_le _ _) (Nat.le_of_ble_eq_true rfl)

theorem EncodingLength.orEwIw (rm : Rm16) (imm : Word) : Statement (.orEwIw rm imm) :=
  encodingLength_of_operand rfl (encodeRm16_length_le _ _) (Nat.le_of_ble_eq_true rfl)

theorem EncodingLength.orEwIbs (rm : Rm16) (imm : Byte) : Statement (.orEwIbs rm imm) :=
  encodingLength_of_operand rfl (encodeRm16_length_le _ _) (Nat.le_of_ble_eq_true rfl)

theorem EncodingLength.adcEbIb (rm : Rm8) (imm : Byte) : Statement (.adcEbIb rm imm) :=
  encodingLength_of_operand rfl (encodeRm8_length_le _ _) (Nat.le_of_ble_eq_true rfl)

theorem EncodingLength.adcEwIw (rm : Rm16) (imm : Word) : Statement (.adcEwIw rm imm) :=
  encodingLength_of_operand rfl (encodeRm16_length_le _ _) (Nat.le_of_ble_eq_true rfl)

theorem EncodingLength.adcEwIbs (rm : Rm16) (imm : Byte) : Statement (.adcEwIbs rm imm) :=
  encodingLength_of_operand rfl (encodeRm16_length_le _ _) (Nat.le_of_ble_eq_true rfl)

theorem EncodingLength.sbbEbIb (rm : Rm8) (imm : Byte) : Statement (.sbbEbIb rm imm) :=
  encodingLength_of_operand rfl (encodeRm8_length_le _ _) (Nat.le_of_ble_eq_true rfl)

theorem EncodingLength.sbbEwIw (rm : Rm16) (imm : Word) : Statement (.sbbEwIw rm imm) :=
  encodingLength_of_operand rfl (encodeRm16_length_le _ _) (Nat.le_of_ble_eq_true rfl)

theorem EncodingLength.sbbEwIbs (rm : Rm16) (imm : Byte) : Statement (.sbbEwIbs rm imm) :=
  encodingLength_of_operand rfl (encodeRm16_length_le _ _) (Nat.le_of_ble_eq_true rfl)

theorem EncodingLength.andEbIb (rm : Rm8) (imm : Byte) : Statement (.andEbIb rm imm) :=
  encodingLength_of_operand rfl (encodeRm8_length_le _ _) (Nat.le_of_ble_eq_true rfl)

theorem EncodingLength.andEwIw (rm : Rm16) (imm : Word) : Statement (.andEwIw rm imm) :=
  encodingLength_of_operand rfl (encodeRm16_length_le _ _) (Nat.le_of_ble_eq_true rfl)

theorem EncodingLength.andEwIbs (rm : Rm16) (imm : Byte) : Statement (.andEwIbs rm imm) :=
  encodingLength_of_operand rfl (encodeRm16_length_le _ _) (Nat.le_of_ble_eq_true rfl)

theorem EncodingLength.subEbIb (rm : Rm8) (imm : Byte) : Statement (.subEbIb rm imm) :=
  encodingLength_of_operand rfl (encodeRm8_length_le _ _) (Nat.le_of_ble_eq_true rfl)

theorem EncodingLength.subEwIw (rm : Rm16) (imm : Word) : Statement (.subEwIw rm imm) :=
  encodingLength_of_operand rfl (encodeRm16_length_le _ _) (Nat.le_of_ble_eq_true rfl)

theorem EncodingLength.subEwIbs (rm : Rm16) (imm : Byte) : Statement (.subEwIbs rm imm) :=
  encodingLength_of_operand rfl (encodeRm16_length_le _ _) (Nat.le_of_ble_eq_true rfl)

theorem EncodingLength.xorEbIb (rm : Rm8) (imm : Byte) : Statement (.xorEbIb rm imm) :=
  encodingLength_of_operand rfl (encodeRm8_length_le _ _) (Nat.le_of_ble_eq_true rfl)

theorem EncodingLength.xorEwIw (rm : Rm16) (imm : Word) : Statement (.xorEwIw rm imm) :=
  encodingLength_of_operand rfl (encodeRm16_length_le _ _) (Nat.le_of_ble_eq_true rfl)

theorem EncodingLength.xorEwIbs (rm : Rm16) (imm : Byte) : Statement (.xorEwIbs rm imm) :=
  encodingLength_of_operand rfl (encodeRm16_length_le _ _) (Nat.le_of_ble_eq_true rfl)

theorem EncodingLength.cmpEbIb (rm : Rm8) (imm : Byte) : Statement (.cmpEbIb rm imm) :=
  encodingLength_of_operand rfl (encodeRm8_length_le _ _) (Nat.le_of_ble_eq_true rfl)

theorem EncodingLength.cmpEwIw (rm : Rm16) (imm : Word) : Statement (.cmpEwIw rm imm) :=
  encodingLength_of_operand rfl (encodeRm16_length_le _ _) (Nat.le_of_ble_eq_true rfl)

theorem EncodingLength.cmpEwIbs (rm : Rm16) (imm : Byte) : Statement (.cmpEwIbs rm imm) :=
  encodingLength_of_operand rfl (encodeRm16_length_le _ _) (Nat.le_of_ble_eq_true rfl)

theorem EncodingLength.testEbGb (rm : Rm8) (reg : Reg8) : Statement (.testEbGb rm reg) :=
  encodingLength_of_cons rfl ((encodeRm8_length_le _ _).trans (by decide))

theorem EncodingLength.testEwGw (rm : Rm16) (reg : Reg16) : Statement (.testEwGw rm reg) :=
  encodingLength_of_cons rfl ((encodeRm16_length_le _ _).trans (by decide))

theorem EncodingLength.xchgEbGb (rm : Rm8) (reg : Reg8) : Statement (.xchgEbGb rm reg) :=
  encodingLength_of_cons rfl ((encodeRm8_length_le _ _).trans (by decide))

theorem EncodingLength.xchgEwGw (rm : Rm16) (reg : Reg16) : Statement (.xchgEwGw rm reg) :=
  encodingLength_of_cons rfl ((encodeRm16_length_le _ _).trans (by decide))

theorem EncodingLength.movEbGb (rm : Rm8) (reg : Reg8) : Statement (.movEbGb rm reg) :=
  encodingLength_of_cons rfl ((encodeRm8_length_le _ _).trans (by decide))

theorem EncodingLength.movEwGw (rm : Rm16) (reg : Reg16) : Statement (.movEwGw rm reg) :=
  encodingLength_of_cons rfl ((encodeRm16_length_le _ _).trans (by decide))

theorem EncodingLength.movGbEb (reg : Reg8) (rm : Rm8) : Statement (.movGbEb reg rm) :=
  encodingLength_of_cons rfl ((encodeRm8_length_le _ _).trans (by decide))

theorem EncodingLength.movGwEw (reg : Reg16) (rm : Rm16) : Statement (.movGwEw reg rm) :=
  encodingLength_of_cons rfl ((encodeRm16_length_le _ _).trans (by decide))

theorem EncodingLength.movEwSw (rm : Rm16) (sreg : SReg) : Statement (.movEwSw rm sreg) :=
  encodingLength_of_cons rfl ((encodeRm16_length_le _ _).trans (by decide))

theorem EncodingLength.lea (reg : Reg16) (mem : MemRef) : Statement (.lea reg mem) :=
  encodingLength_of_cons rfl ((encodeMem_length_le _ _).trans (by decide))

theorem EncodingLength.movESEw (rm : Rm16) : Statement (.movESEw rm) :=
  encodingLength_of_cons rfl ((encodeRm16_length_le _ _).trans (by decide))

theorem EncodingLength.movSSEw (rm : Rm16) : Statement (.movSSEw rm) :=
  encodingLength_of_cons rfl ((encodeRm16_length_le _ _).trans (by decide))

theorem EncodingLength.movDSEw (rm : Rm16) : Statement (.movDSEw rm) :=
  encodingLength_of_cons rfl ((encodeRm16_length_le _ _).trans (by decide))

theorem EncodingLength.popEw (rm : Rm16) : Statement (.popEw rm) :=
  encodingLength_of_cons rfl ((encodeRm16_length_le _ _).trans (by decide))

theorem EncodingLength.nop : Statement (.nop) := encodingLength_of_cons rfl (Nat.le_of_ble_eq_true rfl)

theorem EncodingLength.xchgAXR16 (reg : Reg16) : Statement (.xchgAXR16 reg) :=
  encodingLength_of_cons rfl (Nat.le_of_ble_eq_true rfl)

theorem EncodingLength.cbw : Statement (.cbw) := encodingLength_of_cons rfl (Nat.le_of_ble_eq_true rfl)

theorem EncodingLength.cwd : Statement (.cwd) := encodingLength_of_cons rfl (Nat.le_of_ble_eq_true rfl)

theorem EncodingLength.callFar (off : Word) (seg : Word) : Statement (.callFar off seg) :=
  encodingLength_of_cons rfl (Nat.le_of_ble_eq_true rfl)

theorem EncodingLength.pushf : Statement (.pushf) := encodingLength_of_cons rfl (Nat.le_of_ble_eq_true rfl)

theorem EncodingLength.popf : Statement (.popf) := encodingLength_of_cons rfl (Nat.le_of_ble_eq_true rfl)

theorem EncodingLength.sahf : Statement (.sahf) := encodingLength_of_cons rfl (Nat.le_of_ble_eq_true rfl)

theorem EncodingLength.lahf : Statement (.lahf) := encodingLength_of_cons rfl (Nat.le_of_ble_eq_true rfl)

theorem EncodingLength.movALMoffs (moffs : Word) : Statement (.movALMoffs moffs) :=
  encodingLength_of_cons rfl (Nat.le_of_ble_eq_true rfl)

theorem EncodingLength.movAXMoffs (moffs : Word) : Statement (.movAXMoffs moffs) :=
  encodingLength_of_cons rfl (Nat.le_of_ble_eq_true rfl)

theorem EncodingLength.movMoffsAL (moffs : Word) : Statement (.movMoffsAL moffs) :=
  encodingLength_of_cons rfl (Nat.le_of_ble_eq_true rfl)

theorem EncodingLength.movMoffsAX (moffs : Word) : Statement (.movMoffsAX moffs) :=
  encodingLength_of_cons rfl (Nat.le_of_ble_eq_true rfl)

theorem EncodingLength.movsb : Statement (.movsb) := encodingLength_of_cons rfl (Nat.le_of_ble_eq_true rfl)

theorem EncodingLength.movsw : Statement (.movsw) := encodingLength_of_cons rfl (Nat.le_of_ble_eq_true rfl)

theorem EncodingLength.cmpsb : Statement (.cmpsb) := encodingLength_of_cons rfl (Nat.le_of_ble_eq_true rfl)

theorem EncodingLength.cmpsw : Statement (.cmpsw) := encodingLength_of_cons rfl (Nat.le_of_ble_eq_true rfl)

theorem EncodingLength.testALIb (imm : Byte) : Statement (.testALIb imm) :=
  encodingLength_of_cons rfl (Nat.le_of_ble_eq_true rfl)

theorem EncodingLength.testAXIw (imm : Word) : Statement (.testAXIw imm) :=
  encodingLength_of_cons rfl (Nat.le_of_ble_eq_true rfl)

theorem EncodingLength.stosb : Statement (.stosb) := encodingLength_of_cons rfl (Nat.le_of_ble_eq_true rfl)

theorem EncodingLength.stosw : Statement (.stosw) := encodingLength_of_cons rfl (Nat.le_of_ble_eq_true rfl)

theorem EncodingLength.lodsb : Statement (.lodsb) := encodingLength_of_cons rfl (Nat.le_of_ble_eq_true rfl)

theorem EncodingLength.lodsw : Statement (.lodsw) := encodingLength_of_cons rfl (Nat.le_of_ble_eq_true rfl)

theorem EncodingLength.scasb : Statement (.scasb) := encodingLength_of_cons rfl (Nat.le_of_ble_eq_true rfl)

theorem EncodingLength.scasw : Statement (.scasw) := encodingLength_of_cons rfl (Nat.le_of_ble_eq_true rfl)

theorem EncodingLength.movR8Ib (reg : Reg8) (imm : Byte) : Statement (.movR8Ib reg imm) :=
  encodingLength_of_cons rfl (Nat.le_of_ble_eq_true rfl)

theorem EncodingLength.movR16Iw (reg : Reg16) (imm : Word) : Statement (.movR16Iw reg imm) :=
  encodingLength_of_cons rfl (Nat.le_of_ble_eq_true rfl)

theorem EncodingLength.rolEbCnt8 (rm : Rm8) (cnt : Byte) : Statement (.rolEbCnt8 rm cnt) :=
  encodingLength_of_operand rfl (encodeRm8_length_le _ _) (Nat.le_of_ble_eq_true rfl)

theorem EncodingLength.rorEbCnt8 (rm : Rm8) (cnt : Byte) : Statement (.rorEbCnt8 rm cnt) :=
  encodingLength_of_operand rfl (encodeRm8_length_le _ _) (Nat.le_of_ble_eq_true rfl)

theorem EncodingLength.rclEbCnt8 (rm : Rm8) (cnt : Byte) : Statement (.rclEbCnt8 rm cnt) :=
  encodingLength_of_operand rfl (encodeRm8_length_le _ _) (Nat.le_of_ble_eq_true rfl)

theorem EncodingLength.rcrEbCnt8 (rm : Rm8) (cnt : Byte) : Statement (.rcrEbCnt8 rm cnt) :=
  encodingLength_of_operand rfl (encodeRm8_length_le _ _) (Nat.le_of_ble_eq_true rfl)

theorem EncodingLength.shlEbCnt8 (rm : Rm8) (cnt : Byte) : Statement (.shlEbCnt8 rm cnt) :=
  encodingLength_of_operand rfl (encodeRm8_length_le _ _) (Nat.le_of_ble_eq_true rfl)

theorem EncodingLength.shrEbCnt8 (rm : Rm8) (cnt : Byte) : Statement (.shrEbCnt8 rm cnt) :=
  encodingLength_of_operand rfl (encodeRm8_length_le _ _) (Nat.le_of_ble_eq_true rfl)

theorem EncodingLength.sarEbCnt8 (rm : Rm8) (cnt : Byte) : Statement (.sarEbCnt8 rm cnt) :=
  encodingLength_of_operand rfl (encodeRm8_length_le _ _) (Nat.le_of_ble_eq_true rfl)

theorem EncodingLength.rolEwCnt8 (rm : Rm16) (cnt : Byte) : Statement (.rolEwCnt8 rm cnt) :=
  encodingLength_of_operand rfl (encodeRm16_length_le _ _) (Nat.le_of_ble_eq_true rfl)

theorem EncodingLength.rorEwCnt8 (rm : Rm16) (cnt : Byte) : Statement (.rorEwCnt8 rm cnt) :=
  encodingLength_of_operand rfl (encodeRm16_length_le _ _) (Nat.le_of_ble_eq_true rfl)

theorem EncodingLength.rclEwCnt8 (rm : Rm16) (cnt : Byte) : Statement (.rclEwCnt8 rm cnt) :=
  encodingLength_of_operand rfl (encodeRm16_length_le _ _) (Nat.le_of_ble_eq_true rfl)

theorem EncodingLength.rcrEwCnt8 (rm : Rm16) (cnt : Byte) : Statement (.rcrEwCnt8 rm cnt) :=
  encodingLength_of_operand rfl (encodeRm16_length_le _ _) (Nat.le_of_ble_eq_true rfl)

theorem EncodingLength.shlEwCnt8 (rm : Rm16) (cnt : Byte) : Statement (.shlEwCnt8 rm cnt) :=
  encodingLength_of_operand rfl (encodeRm16_length_le _ _) (Nat.le_of_ble_eq_true rfl)

theorem EncodingLength.shrEwCnt8 (rm : Rm16) (cnt : Byte) : Statement (.shrEwCnt8 rm cnt) :=
  encodingLength_of_operand rfl (encodeRm16_length_le _ _) (Nat.le_of_ble_eq_true rfl)

theorem EncodingLength.sarEwCnt8 (rm : Rm16) (cnt : Byte) : Statement (.sarEwCnt8 rm cnt) :=
  encodingLength_of_operand rfl (encodeRm16_length_le _ _) (Nat.le_of_ble_eq_true rfl)

theorem EncodingLength.rolEb1 (rm : Rm8) : Statement (.rolEb1 rm) :=
  encodingLength_of_cons rfl ((encodeRm8_length_le _ _).trans (by decide))

theorem EncodingLength.rorEb1 (rm : Rm8) : Statement (.rorEb1 rm) :=
  encodingLength_of_cons rfl ((encodeRm8_length_le _ _).trans (by decide))

theorem EncodingLength.rclEb1 (rm : Rm8) : Statement (.rclEb1 rm) :=
  encodingLength_of_cons rfl ((encodeRm8_length_le _ _).trans (by decide))

theorem EncodingLength.rcrEb1 (rm : Rm8) : Statement (.rcrEb1 rm) :=
  encodingLength_of_cons rfl ((encodeRm8_length_le _ _).trans (by decide))

theorem EncodingLength.shlEb1 (rm : Rm8) : Statement (.shlEb1 rm) :=
  encodingLength_of_cons rfl ((encodeRm8_length_le _ _).trans (by decide))

theorem EncodingLength.shrEb1 (rm : Rm8) : Statement (.shrEb1 rm) :=
  encodingLength_of_cons rfl ((encodeRm8_length_le _ _).trans (by decide))

theorem EncodingLength.sarEb1 (rm : Rm8) : Statement (.sarEb1 rm) :=
  encodingLength_of_cons rfl ((encodeRm8_length_le _ _).trans (by decide))

theorem EncodingLength.rolEw1 (rm : Rm16) : Statement (.rolEw1 rm) :=
  encodingLength_of_cons rfl ((encodeRm16_length_le _ _).trans (by decide))

theorem EncodingLength.rorEw1 (rm : Rm16) : Statement (.rorEw1 rm) :=
  encodingLength_of_cons rfl ((encodeRm16_length_le _ _).trans (by decide))

theorem EncodingLength.rclEw1 (rm : Rm16) : Statement (.rclEw1 rm) :=
  encodingLength_of_cons rfl ((encodeRm16_length_le _ _).trans (by decide))

theorem EncodingLength.rcrEw1 (rm : Rm16) : Statement (.rcrEw1 rm) :=
  encodingLength_of_cons rfl ((encodeRm16_length_le _ _).trans (by decide))

theorem EncodingLength.shlEw1 (rm : Rm16) : Statement (.shlEw1 rm) :=
  encodingLength_of_cons rfl ((encodeRm16_length_le _ _).trans (by decide))

theorem EncodingLength.shrEw1 (rm : Rm16) : Statement (.shrEw1 rm) :=
  encodingLength_of_cons rfl ((encodeRm16_length_le _ _).trans (by decide))

theorem EncodingLength.sarEw1 (rm : Rm16) : Statement (.sarEw1 rm) :=
  encodingLength_of_cons rfl ((encodeRm16_length_le _ _).trans (by decide))

theorem EncodingLength.rolEbCL (rm : Rm8) : Statement (.rolEbCL rm) :=
  encodingLength_of_cons rfl ((encodeRm8_length_le _ _).trans (by decide))

theorem EncodingLength.rorEbCL (rm : Rm8) : Statement (.rorEbCL rm) :=
  encodingLength_of_cons rfl ((encodeRm8_length_le _ _).trans (by decide))

theorem EncodingLength.rclEbCL (rm : Rm8) : Statement (.rclEbCL rm) :=
  encodingLength_of_cons rfl ((encodeRm8_length_le _ _).trans (by decide))

theorem EncodingLength.rcrEbCL (rm : Rm8) : Statement (.rcrEbCL rm) :=
  encodingLength_of_cons rfl ((encodeRm8_length_le _ _).trans (by decide))

theorem EncodingLength.shlEbCL (rm : Rm8) : Statement (.shlEbCL rm) :=
  encodingLength_of_cons rfl ((encodeRm8_length_le _ _).trans (by decide))

theorem EncodingLength.shrEbCL (rm : Rm8) : Statement (.shrEbCL rm) :=
  encodingLength_of_cons rfl ((encodeRm8_length_le _ _).trans (by decide))

theorem EncodingLength.sarEbCL (rm : Rm8) : Statement (.sarEbCL rm) :=
  encodingLength_of_cons rfl ((encodeRm8_length_le _ _).trans (by decide))

theorem EncodingLength.rolEwCL (rm : Rm16) : Statement (.rolEwCL rm) :=
  encodingLength_of_cons rfl ((encodeRm16_length_le _ _).trans (by decide))

theorem EncodingLength.rorEwCL (rm : Rm16) : Statement (.rorEwCL rm) :=
  encodingLength_of_cons rfl ((encodeRm16_length_le _ _).trans (by decide))

theorem EncodingLength.rclEwCL (rm : Rm16) : Statement (.rclEwCL rm) :=
  encodingLength_of_cons rfl ((encodeRm16_length_le _ _).trans (by decide))

theorem EncodingLength.rcrEwCL (rm : Rm16) : Statement (.rcrEwCL rm) :=
  encodingLength_of_cons rfl ((encodeRm16_length_le _ _).trans (by decide))

theorem EncodingLength.shlEwCL (rm : Rm16) : Statement (.shlEwCL rm) :=
  encodingLength_of_cons rfl ((encodeRm16_length_le _ _).trans (by decide))

theorem EncodingLength.shrEwCL (rm : Rm16) : Statement (.shrEwCL rm) :=
  encodingLength_of_cons rfl ((encodeRm16_length_le _ _).trans (by decide))

theorem EncodingLength.sarEwCL (rm : Rm16) : Statement (.sarEwCL rm) :=
  encodingLength_of_cons rfl ((encodeRm16_length_le _ _).trans (by decide))

theorem EncodingLength.retPop (cnt : Word) : Statement (.retPop cnt) :=
  encodingLength_of_cons rfl (Nat.le_of_ble_eq_true rfl)

theorem EncodingLength.ret : Statement (.ret) := encodingLength_of_cons rfl (Nat.le_of_ble_eq_true rfl)

theorem EncodingLength.les (reg : Reg16) (mem : MemRef) : Statement (.les reg mem) :=
  encodingLength_of_cons rfl ((encodeMem_length_le _ _).trans (by decide))

theorem EncodingLength.lds (reg : Reg16) (mem : MemRef) : Statement (.lds reg mem) :=
  encodingLength_of_cons rfl ((encodeMem_length_le _ _).trans (by decide))

theorem EncodingLength.movEbIb (rm : Rm8) (imm : Byte) : Statement (.movEbIb rm imm) :=
  encodingLength_of_operand rfl (encodeRm8_length_le _ _) (Nat.le_of_ble_eq_true rfl)

theorem EncodingLength.movEwIw (rm : Rm16) (imm : Word) : Statement (.movEwIw rm imm) :=
  encodingLength_of_operand rfl (encodeRm16_length_le _ _) (Nat.le_of_ble_eq_true rfl)

theorem EncodingLength.retfPop (cnt : Word) : Statement (.retfPop cnt) :=
  encodingLength_of_cons rfl (Nat.le_of_ble_eq_true rfl)

theorem EncodingLength.retf : Statement (.retf) := encodingLength_of_cons rfl (Nat.le_of_ble_eq_true rfl)

theorem EncodingLength.int3 : Statement (.int3) := encodingLength_of_cons rfl (Nat.le_of_ble_eq_true rfl)

theorem EncodingLength.int (vec : Byte) : Statement (.int vec) := encodingLength_of_cons rfl (Nat.le_of_ble_eq_true rfl)

theorem EncodingLength.into : Statement (.into) := encodingLength_of_cons rfl (Nat.le_of_ble_eq_true rfl)

theorem EncodingLength.iret : Statement (.iret) := encodingLength_of_cons rfl (Nat.le_of_ble_eq_true rfl)

theorem EncodingLength.xlat : Statement (.xlat) := encodingLength_of_cons rfl (Nat.le_of_ble_eq_true rfl)

theorem EncodingLength.loopne (rel : Byte) : Statement (.loopne rel) :=
  encodingLength_of_cons rfl (Nat.le_of_ble_eq_true rfl)

theorem EncodingLength.loope (rel : Byte) : Statement (.loope rel) :=
  encodingLength_of_cons rfl (Nat.le_of_ble_eq_true rfl)

theorem EncodingLength.loop (rel : Byte) : Statement (.loop rel) :=
  encodingLength_of_cons rfl (Nat.le_of_ble_eq_true rfl)

theorem EncodingLength.jcxz (rel : Byte) : Statement (.jcxz rel) :=
  encodingLength_of_cons rfl (Nat.le_of_ble_eq_true rfl)

theorem EncodingLength.callRel16 (rel : Word) : Statement (.callRel16 rel) :=
  encodingLength_of_cons rfl (Nat.le_of_ble_eq_true rfl)

theorem EncodingLength.jmpRel16 (rel : Word) : Statement (.jmpRel16 rel) :=
  encodingLength_of_cons rfl (Nat.le_of_ble_eq_true rfl)

theorem EncodingLength.jmpFar (off : Word) (seg : Word) : Statement (.jmpFar off seg) :=
  encodingLength_of_cons rfl (Nat.le_of_ble_eq_true rfl)

theorem EncodingLength.jmpRel8 (rel : Byte) : Statement (.jmpRel8 rel) :=
  encodingLength_of_cons rfl (Nat.le_of_ble_eq_true rfl)

theorem EncodingLength.hlt : Statement (.hlt) := encodingLength_of_cons rfl (Nat.le_of_ble_eq_true rfl)

theorem EncodingLength.cmc : Statement (.cmc) := encodingLength_of_cons rfl (Nat.le_of_ble_eq_true rfl)

theorem EncodingLength.testEbIb (rm : Rm8) (imm : Byte) : Statement (.testEbIb rm imm) :=
  encodingLength_of_operand rfl (encodeRm8_length_le _ _) (Nat.le_of_ble_eq_true rfl)

theorem EncodingLength.testEwIw (rm : Rm16) (imm : Word) : Statement (.testEwIw rm imm) :=
  encodingLength_of_operand rfl (encodeRm16_length_le _ _) (Nat.le_of_ble_eq_true rfl)

theorem EncodingLength.notEb (rm : Rm8) : Statement (.notEb rm) :=
  encodingLength_of_cons rfl ((encodeRm8_length_le _ _).trans (by decide))

theorem EncodingLength.notEw (rm : Rm16) : Statement (.notEw rm) :=
  encodingLength_of_cons rfl ((encodeRm16_length_le _ _).trans (by decide))

theorem EncodingLength.negEb (rm : Rm8) : Statement (.negEb rm) :=
  encodingLength_of_cons rfl ((encodeRm8_length_le _ _).trans (by decide))

theorem EncodingLength.negEw (rm : Rm16) : Statement (.negEw rm) :=
  encodingLength_of_cons rfl ((encodeRm16_length_le _ _).trans (by decide))

theorem EncodingLength.clc : Statement (.clc) := encodingLength_of_cons rfl (Nat.le_of_ble_eq_true rfl)

theorem EncodingLength.stc : Statement (.stc) := encodingLength_of_cons rfl (Nat.le_of_ble_eq_true rfl)

theorem EncodingLength.cli : Statement (.cli) := encodingLength_of_cons rfl (Nat.le_of_ble_eq_true rfl)

theorem EncodingLength.sti : Statement (.sti) := encodingLength_of_cons rfl (Nat.le_of_ble_eq_true rfl)

theorem EncodingLength.cld : Statement (.cld) := encodingLength_of_cons rfl (Nat.le_of_ble_eq_true rfl)

theorem EncodingLength.std : Statement (.std) := encodingLength_of_cons rfl (Nat.le_of_ble_eq_true rfl)

theorem EncodingLength.incEb (rm : Rm8) : Statement (.incEb rm) :=
  encodingLength_of_cons rfl ((encodeRm8_length_le _ _).trans (by decide))

theorem EncodingLength.decEb (rm : Rm8) : Statement (.decEb rm) :=
  encodingLength_of_cons rfl ((encodeRm8_length_le _ _).trans (by decide))

theorem EncodingLength.incEw (rm : Rm16) : Statement (.incEw rm) :=
  encodingLength_of_cons rfl ((encodeRm16_length_le _ _).trans (by decide))

theorem EncodingLength.decEw (rm : Rm16) : Statement (.decEw rm) :=
  encodingLength_of_cons rfl ((encodeRm16_length_le _ _).trans (by decide))

theorem EncodingLength.callEw (rm : Rm16) : Statement (.callEw rm) :=
  encodingLength_of_cons rfl ((encodeRm16_length_le _ _).trans (by decide))

theorem EncodingLength.callFarM (mem : MemRef) : Statement (.callFarM mem) :=
  encodingLength_of_cons rfl ((encodeMem_length_le _ _).trans (by decide))

theorem EncodingLength.jmpEw (rm : Rm16) : Statement (.jmpEw rm) :=
  encodingLength_of_cons rfl ((encodeRm16_length_le _ _).trans (by decide))

theorem EncodingLength.jmpFarM (mem : MemRef) : Statement (.jmpFarM mem) :=
  encodingLength_of_cons rfl ((encodeMem_length_le _ _).trans (by decide))

theorem EncodingLength.pushEw (rm : Rm16) : Statement (.pushEw rm) :=
  encodingLength_of_cons rfl ((encodeRm16_length_le _ _).trans (by decide))

theorem EncodingLength.segES : Statement (.segES) := encodingLength_of_cons rfl (Nat.le_of_ble_eq_true rfl)

theorem EncodingLength.segCS : Statement (.segCS) := encodingLength_of_cons rfl (Nat.le_of_ble_eq_true rfl)

theorem EncodingLength.segSS : Statement (.segSS) := encodingLength_of_cons rfl (Nat.le_of_ble_eq_true rfl)

theorem EncodingLength.segDS : Statement (.segDS) := encodingLength_of_cons rfl (Nat.le_of_ble_eq_true rfl)

theorem EncodingLength.lock : Statement (.lock) := encodingLength_of_cons rfl (Nat.le_of_ble_eq_true rfl)

theorem EncodingLength.repne : Statement (.repne) := encodingLength_of_cons rfl (Nat.le_of_ble_eq_true rfl)

theorem EncodingLength.rep : Statement (.rep) := encodingLength_of_cons rfl (Nat.le_of_ble_eq_true rfl)

end Sys2Proof.Laws
end

