-- ==== Sys2Proof/Laws/Strings.lean ====
section
/-! SUPPORT. The repetition of 44_string R241: its unrolling, its closed form as an iteration for MOVS, STOS and LODS, and
what the string elements keep. -/

namespace Sys2Proof.Laws

open Sys2Proof Sys2Proof.Machine

/-- With CX = 0 nothing happens (44_string R241). -/
theorem repeatLoop_of_cx_zero {s : State} (h : s.regs.cx = 0) (one : State → State) (stop : State → Bool) (fuel : Nat) :
    repeatLoop one stop fuel s = s := by
  cases fuel with
  | zero => rfl
  | succ n => simp [repeatLoop, h]

/-- One pass of the repetition (44_string R241): the element, the decrement of CX, the test, the rest. -/
theorem repeatLoop_of_cx_ne_zero {s : State} (h : s.regs.cx ≠ 0) {one : State → State}
    (hcx : (one s).regs.cx = s.regs.cx) (stop : State → Bool) :
    repeatLoop one stop s.regs.cx.toNat s =
      if stop (decCx (one s)) then decCx (one s)
      else repeatLoop one stop (decCx (one s)).regs.cx.toNat (decCx (one s)) := by
  have hc : s.regs.cx.toNat = (decCx (one s)).regs.cx.toNat + 1 := by
    have h0 : s.regs.cx.toNat ≠ 0 := fun e => h (BitVec.eq_of_toNat_eq (by simpa using e))
    have hlt := s.regs.cx.isLt
    simp only [decCx_regs, hcx]
    bv_omega
  rw [hc]
  simp only [repeatLoop, h, ↓reduceIte]

/-- MOVS, STOS and LODS under a prefix: as many passes as CX says (44_string R241). -/
theorem repeatLoop_plain {one : State → State} (hcx : ∀ a, (one a).regs.cx = a.regs.cx) (n : Nat) :
    ∀ s : State, s.regs.cx.toNat = n →
      repeatLoop one (fun _ => false) s.regs.cx.toNat s = (fun a => decCx (one a))^[n] s := by
  induction n with
  | zero =>
    intro s h
    exact repeatLoop_of_cx_zero (BitVec.eq_of_toNat_eq (by simpa using h)) _ _ _
  | succ n ih =>
    intro s h
    have h0 : s.regs.cx ≠ 0 := fun e => by rw [e] at h; simp at h
    rw [repeatLoop_of_cx_ne_zero h0 (hcx s)]
    simp only [Bool.false_eq_true, ↓reduceIte, Function.iterate_succ, Function.comp_apply]
    apply ih
    have hlt := s.regs.cx.isLt
    simp only [decCx_regs, hcx]
    bv_omega

/-- What the elements keep, the repetition keeps. -/
theorem repeatPlain_eq {α : Type} {f : State → α} {one : State → State} (hone : ∀ a, f (one a) = f a)
    (hdec : ∀ a, f (decCx a) = f a) (s : State) : f (repeatPlain one s) = f s :=
  repeatPlain_rel (P := fun a b => f b = f a) (fun _ => rfl) (fun _ _ _ h k => k.trans h) hone hdec s

theorem repeatCompare_eq {α : Type} {f : State → α} {one : State → State} (hone : ∀ a, f (one a) = f a)
    (hdec : ∀ a, f (decCx a) = f a) (s : State) : f (repeatCompare one s) = f s :=
  repeatCompare_rel (P := fun a b => f b = f a) (fun _ => rfl) (fun _ _ _ h k => k.trans h) hone hdec s

/-- A property kept by the elements is kept by the repetition. -/
theorem repeatPlain_keeps {P : State → Prop} {one : State → State} (hone : ∀ a, P a → P (one a))
    (hdec : ∀ a, P a → P (decCx a)) {s : State} (h : P s) : P (repeatPlain one s) :=
  repeatPlain_rel (P := fun a b => P a → P b) (fun _ => id) (fun _ _ _ h k => k ∘ h) hone hdec s h

theorem repeatCompare_keeps {P : State → Prop} {one : State → State} (hone : ∀ a, P a → P (one a))
    (hdec : ∀ a, P a → P (decCx a)) {s : State} (h : P s) : P (repeatCompare one s) :=
  repeatCompare_rel (P := fun a b => P a → P b) (fun _ => id) (fun _ _ _ h k => k ∘ h) hone hdec s h

/-- A repeated CMPS or SCAS with CX = 0 changes nothing (44_string R241). -/
theorem repeatCompare_of_cx_zero {s : State} (hr : s.rep.isSome = true) (h : s.regs.cx = 0) (one : State → State) :
    repeatCompare one s = s := by
  unfold repeatCompare
  split
  · simp_all
  · exact repeatLoop_of_cx_zero h _ _ _

theorem repeatPlain_none {s : State} (h : s.rep = none) (one : State → State) : repeatPlain one s = one s := by
  simp [repeatPlain, h]

theorem repeatCompare_none {s : State} (h : s.rep = none) (one : State → State) : repeatCompare one s = one s := by
  simp [repeatCompare, h]

end Sys2Proof.Laws
end

