-- ==== Sys2Proof/Laws/Registers.lean ====
section
/-! SUPPORT. Reading a register after a write (10_state R20, R21), and the relation `KeepsRegs bs rs`: every general register
keeps its value but the 8-bit ones in `bs` and the 16-bit ones in `rs`. Closed under composition; one lemma per shared operation. -/

namespace Sys2Proof.Laws

open Sys2Proof Sys2Proof.Machine

/-- A 16-bit register written is read back. -/
theorem reg16_setReg16_self (r : Reg16) (v : Word) (s : State) : (setReg16 r v s).reg16 r = v := by cases r <;> rfl

/-- Another 16-bit register is kept. -/
theorem reg16_setReg16_ne {r q : Reg16} (h : q ≠ r) (v : Word) (s : State) : (setReg16 r v s).reg16 q = s.reg16 q := by
  cases r <;> cases q <;> first | rfl | exact absurd rfl h

/-- An 8-bit register written is read back (10_state R21). -/
theorem reg8_setReg8_self (r : Reg8) (v : Byte) (s : State) : (setReg8 r v s).reg8 r = v := by
  cases r <;> simp [State.reg8, setReg8, isHigh, wholeOf, State.reg16, setReg16]

/-- Another 8-bit register is kept, the other half of the same register among them (10_state R21). -/
theorem reg8_setReg8_ne {r q : Reg8} (h : q ≠ r) (v : Byte) (s : State) : (setReg8 r v s).reg8 q = s.reg8 q := by
  cases q <;> cases r <;> first
    | exact absurd rfl h
    | simp [State.reg8, setReg8, isHigh, wholeOf, State.reg16, setReg16]

/-- A half of another 16-bit register is kept. -/
theorem reg8_setReg16_ne {r : Reg16} {b : Reg8} (h : wholeOf b ≠ r) (v : Word) (s : State) :
    (setReg16 r v s).reg8 b = s.reg8 b := by simp only [State.reg8, reg16_setReg16_ne h]

/-- A 16-bit register keeps its value when a half of another is written. -/
theorem reg16_setReg8_ne {r : Reg16} {b : Reg8} (h : wholeOf b ≠ r) (v : Byte) (s : State) :
    (setReg8 b v s).reg16 r = s.reg16 r := reg16_setReg16_ne (Ne.symm h) _ s

/-- Every general register keeps its value but the 8-bit ones in `bs` and the 16-bit ones in `rs`. -/
def KeepsRegs (bs : List Reg8) (rs : List Reg16) (s t : State) : Prop :=
  (∀ r, r ∉ rs → (∀ b ∈ bs, wholeOf b ≠ r) → t.reg16 r = s.reg16 r) ∧
    (∀ b, b ∉ bs → wholeOf b ∉ rs → t.reg8 b = s.reg8 b)

theorem KeepsRegs.of_regs {bs : List Reg8} {rs : List Reg16} {s t : State} (h : t.regs = s.regs) : KeepsRegs bs rs s t := by
  have h16 : ∀ r, t.reg16 r = s.reg16 r := fun r => by cases r <;> simp [State.reg16, h]
  exact ⟨fun r _ _ => h16 r, fun b _ _ => by simp [State.reg8, h16]⟩

theorem KeepsRegs.refl (bs : List Reg8) (rs : List Reg16) (s : State) : KeepsRegs bs rs s s := .of_regs rfl

theorem KeepsRegs.trans {bs : List Reg8} {rs : List Reg16} {s t u : State} (h : KeepsRegs bs rs s t)
    (k : KeepsRegs bs rs t u) : KeepsRegs bs rs s u :=
  ⟨fun r h1 h2 => (k.1 r h1 h2).trans (h.1 r h1 h2), fun b h1 h2 => (k.2 b h1 h2).trans (h.2 b h1 h2)⟩

/-- An operation that changes no register, after one. -/
theorem KeepsRegs.then_regs {bs : List Reg8} {rs : List Reg16} {s t u : State} (h : KeepsRegs bs rs s t)
    (k : u.regs = t.regs) : KeepsRegs bs rs s u := h.trans (.of_regs k)

/-- An operation that changes no register, before one. -/
theorem KeepsRegs.after_regs {bs : List Reg8} {rs : List Reg16} {s t u : State} (k : t.regs = s.regs)
    (h : KeepsRegs bs rs t u) : KeepsRegs bs rs s u := (KeepsRegs.of_regs k).trans h

theorem keepsRegs_setReg16 {bs : List Reg8} {rs : List Reg16} {r : Reg16} (hr : r ∈ rs) (v : Word) (s : State) :
    KeepsRegs bs rs s (setReg16 r v s) :=
  ⟨fun _ h _ => reg16_setReg16_ne (by rintro rfl; exact h hr) v s,
    fun _ _ h => reg8_setReg16_ne (fun e => h (by rw [e]; exact hr)) v s⟩

theorem keepsRegs_setReg8 {bs : List Reg8} {rs : List Reg16} {r : Reg8} (hr : r ∈ bs) (v : Byte) (s : State) :
    KeepsRegs bs rs s (setReg8 r v s) :=
  ⟨fun _ _ h => reg16_setReg8_ne (h r hr) v s, fun _ h _ => reg8_setReg8_ne (by rintro rfl; exact h hr) v s⟩

theorem keepsRegs_writePlace8 {bs : List Reg8} {rs : List Reg16} {rm : Rm8} (hr : ∀ r ∈ rmReg8 rm, r ∈ bs) (q s : State)
    (v : Byte) : KeepsRegs bs rs s (writePlace8 (place8 rm q) v s) := by
  cases rm with
  | reg r => exact keepsRegs_setReg8 (hr r (by simp [rmReg8])) v s
  | mem m => exact .of_regs (by simp [place8, writePlace8])

theorem keepsRegs_writePlace16 {bs : List Reg8} {rs : List Reg16} {rm : Rm16} (hr : ∀ r ∈ rmReg16 rm, r ∈ rs)
    (q s : State) (v : Word) : KeepsRegs bs rs s (writePlace16 (place16 rm q) v s) := by
  cases rm with
  | reg r => exact keepsRegs_setReg16 (hr r (by simp [rmReg16])) v s
  | mem m => exact .of_regs (by simp [place16, writePlace16])

/-! One lemma per shared operation. -/

theorem keepsRegs_aluPlace8 (op : AluOp) (rm : Rm8) (b : Byte) (s : State) :
    KeepsRegs (rmReg8 rm) [] s (aluPlace8 op (place8 rm s) b s) := by
  unfold aluPlace8
  dsimp only
  split
  · exact .after_regs (by simp) (keepsRegs_writePlace8 (fun _ h => h) _ _ _)
  · exact .of_regs (by simp)

theorem keepsRegs_aluPlace16 (op : AluOp) (rm : Rm16) (b : Word) (s : State) :
    KeepsRegs [] (rmReg16 rm) s (aluPlace16 op (place16 rm s) b s) := by
  unfold aluPlace16
  dsimp only
  split
  · exact .after_regs (by simp) (keepsRegs_writePlace16 (fun _ h => h) _ _ _)
  · exact .of_regs (by simp)

theorem keepsRegs_aluReg8 (op : AluOp) (reg : Reg8) (p : Place8) (s : State) :
    KeepsRegs [reg] [] s (aluReg8 op reg p s) := by
  unfold aluReg8
  dsimp only
  split
  · exact .after_regs (by simp) (keepsRegs_setReg8 (by simp) _ _)
  · exact .of_regs (by simp)

theorem keepsRegs_aluReg16 (op : AluOp) (reg : Reg16) (p : Place16) (s : State) :
    KeepsRegs [] [reg] s (aluReg16 op reg p s) := by
  unfold aluReg16
  dsimp only
  split
  · exact .after_regs (by simp) (keepsRegs_setReg16 (by simp) _ _)
  · exact .of_regs (by simp)

/-- CMP writes no register (41_arithmetic R178). -/
theorem aluPlace8_cmp_regs (p : Place8) (b : Byte) (s : State) : (aluPlace8 .cmp p b s).regs = s.regs := by
  simp [aluPlace8, aluWrites]
theorem aluPlace16_cmp_regs (p : Place16) (b : Word) (s : State) : (aluPlace16 .cmp p b s).regs = s.regs := by
  simp [aluPlace16, aluWrites]
theorem aluReg8_cmp_regs (reg : Reg8) (p : Place8) (s : State) : (aluReg8 .cmp reg p s).regs = s.regs := by
  simp [aluReg8, aluWrites]
theorem aluReg16_cmp_regs (reg : Reg16) (p : Place16) (s : State) : (aluReg16 .cmp reg p s).regs = s.regs := by
  simp [aluReg16, aluWrites]

theorem keepsRegs_unaryPlace8 (f : Byte → Word → Byte × Word) (rm : Rm8) (s : State) :
    KeepsRegs (rmReg8 rm) [] s (unaryPlace8 f (place8 rm s) s) :=
  .after_regs (by simp) (keepsRegs_writePlace8 (fun _ h => h) _ _ _)

theorem keepsRegs_unaryPlace16 (f : Word → Word → Word × Word) (rm : Rm16) (s : State) :
    KeepsRegs [] (rmReg16 rm) s (unaryPlace16 f (place16 rm s) s) :=
  .after_regs (by simp) (keepsRegs_writePlace16 (fun _ h => h) _ _ _)

theorem keepsRegs_notPlace8 (rm : Rm8) (s : State) : KeepsRegs (rmReg8 rm) [] s (notPlace8 (place8 rm s) s) :=
  .after_regs (by simp) (keepsRegs_writePlace8 (fun _ h => h) _ _ _)

theorem keepsRegs_notPlace16 (rm : Rm16) (s : State) : KeepsRegs [] (rmReg16 rm) s (notPlace16 (place16 rm s) s) :=
  .after_regs (by simp) (keepsRegs_writePlace16 (fun _ h => h) _ _ _)

theorem keepsRegs_shiftPlace8 (op : ShiftOp) (raw : Byte) (rm : Rm8) (s : State) :
    KeepsRegs (rmReg8 rm) [] s (shiftPlace8 op raw (place8 rm s) s) := by
  unfold shiftPlace8
  dsimp only
  split
  · exact .of_regs (by simp)
  · exact .after_regs (by simp) (keepsRegs_writePlace8 (fun _ h => h) _ _ _)

theorem keepsRegs_shiftPlace16 (op : ShiftOp) (raw : Byte) (rm : Rm16) (s : State) :
    KeepsRegs [] (rmReg16 rm) s (shiftPlace16 op raw (place16 rm s) s) := by
  unfold shiftPlace16
  dsimp only
  split
  · exact .of_regs (by simp)
  · exact .after_regs (by simp) (keepsRegs_writePlace16 (fun _ h => h) _ _ _)

theorem keepsRegs_xchgPlace8 (rm : Rm8) (reg : Reg8) (s : State) :
    KeepsRegs (reg :: rmReg8 rm) [] s (xchgPlace8 (place8 rm s) reg s) :=
  .after_regs (t := (readPlace8 (place8 rm s) s).2) (by simp) ((keepsRegs_setReg8 (by simp) _ _).trans
    (keepsRegs_writePlace8 (fun _ h => by simp [h]) _ _ _))

theorem keepsRegs_xchgPlace16 (rm : Rm16) (reg : Reg16) (s : State) :
    KeepsRegs [] (reg :: rmReg16 rm) s (xchgPlace16 (place16 rm s) reg s) :=
  .after_regs (t := (readPlace16 (place16 rm s) s).2) (by simp) ((keepsRegs_setReg16 (by simp) _ _).trans
    (keepsRegs_writePlace16 (fun _ h => by simp [h]) _ _ _))

/-- A state whose registers differ in SP alone. -/
theorem keepsRegs_sp {bs : List Reg8} {rs : List Reg16} (hr : Reg16.sp ∈ rs) {s t : State} {v : Word}
    (h : t.regs = { s.regs with sp := v }) : KeepsRegs bs rs s t := by
  refine .then_regs (t := setReg16 .sp v s) (keepsRegs_setReg16 hr v s) ?_
  rw [h]; rfl

theorem push_regs_eq (v : Word) (s : State) : (push v s).regs = { s.regs with sp := s.regs.sp - 2 } := by
  simp [push, setReg16]

theorem pushSp_regs_eq (s : State) : (pushSp s).regs = { s.regs with sp := s.regs.sp - 2 } := by
  simp [pushSp, setReg16]

theorem pop_regs_eq (s : State) : (pop s).2.regs = { s.regs with sp := s.regs.sp + 2 } := by
  simp [pop, setReg16]

theorem keepsRegs_push {bs : List Reg8} {rs : List Reg16} (hr : Reg16.sp ∈ rs) (v : Word) (s : State) :
    KeepsRegs bs rs s (push v s) := keepsRegs_sp hr (push_regs_eq v s)

theorem keepsRegs_pop {bs : List Reg8} {rs : List Reg16} (hr : Reg16.sp ∈ rs) (s : State) :
    KeepsRegs bs rs s (pop s).2 := keepsRegs_sp hr (pop_regs_eq s)

theorem keepsRegs_pushPlace16 (p : Place16) (s : State) : KeepsRegs [] [.sp] s (pushPlace16 p s) := by
  unfold pushPlace16
  dsimp only
  split
  · exact .after_regs (by simp) (keepsRegs_sp (by simp) (pushSp_regs_eq _))
  · exact .after_regs (by simp) (keepsRegs_push (by simp) _ _)

theorem keepsRegs_popPlace16 (rm : Rm16) (s : State) :
    KeepsRegs [] (.sp :: rmReg16 rm) s (popPlace16 (place16 rm s) s) :=
  (keepsRegs_pop (by simp) s).trans (keepsRegs_writePlace16 (fun _ h => by simp [h]) _ _ _)

theorem keepsRegs_callFarTo (off seg : Word) (s : State) : KeepsRegs [] [.sp] s (callFarTo off seg s) :=
  ((keepsRegs_push (by simp) s.segs.cs s).trans (keepsRegs_push (by simp) s.pc _)).then_regs
    (by simp [callFarTo, jumpFar])

theorem keepsRegs_returnFar (s : State) : KeepsRegs [] [.sp] s (returnFar s) :=
  ((keepsRegs_pop (by simp) s).trans (keepsRegs_pop (by simp) _)).then_regs (by simp [returnFar, jumpFar])

theorem keepsRegs_trapReturn (s : State) : KeepsRegs [] [.sp] s (trapReturn s) :=
  (((keepsRegs_pop (by simp) s).trans (keepsRegs_pop (by simp) _)).trans (keepsRegs_pop (by simp) _)).then_regs
    (by simp [trapReturn])

theorem keepsRegs_trap (n : Byte) (ret : Word) (s : State) : KeepsRegs [] [.sp] s (trap n ret s) := by
  have h1 : KeepsRegs [] [.sp] s (setFlag .TF false (setFlag .IF false (push s.flags s))) :=
    (keepsRegs_push (by simp) s.flags s).then_regs (by simp)
  exact ((h1.trans (keepsRegs_push (by simp) s.segs.cs _)).trans (keepsRegs_push (by simp) ret _)).then_regs (by simp [trap])

/-- A string instruction's elements and decrements. -/
theorem keepsRegs_repeatPlain {bs : List Reg8} {rs : List Reg16} {one : State → State}
    (hone : ∀ a, KeepsRegs bs rs a (one a)) {s : State} (hcx : s.rep.isSome = true → Reg16.cx ∈ rs) :
    KeepsRegs bs rs s (repeatPlain one s) := by
  unfold repeatPlain
  split
  · exact hone s
  · next r hr =>
    exact repeatLoop_rel (KeepsRegs.refl bs rs) (fun _ _ _ h k => h.trans k) hone
      (fun a => keepsRegs_setReg16 (hcx (by simp [hr])) _ a) _ _ s

theorem keepsRegs_repeatCompare {bs : List Reg8} {rs : List Reg16} {one : State → State}
    (hone : ∀ a, KeepsRegs bs rs a (one a)) {s : State} (hcx : s.rep.isSome = true → Reg16.cx ∈ rs) :
    KeepsRegs bs rs s (repeatCompare one s) := by
  unfold repeatCompare
  split
  · exact hone s
  · next r hr =>
    exact repeatLoop_rel (KeepsRegs.refl bs rs) (fun _ _ _ h k => h.trans k) hone
      (fun a => keepsRegs_setReg16 (hcx (by simp [hr])) _ a) _ _ s

end Sys2Proof.Laws
end

