-- ==== Sys2Proof/Laws/Results.lean ====
section
/-! SUPPORT. The add, subtract and logical operations on numbers: `addOp` meets `Adds`, `subOp` meets `Subtracts`, `logicFlags`
meets `LogicalFlags` (41_arithmetic R170 to R172, 42_logical R200), and the bits of FLAGS that `keepsAllBut` keeps. -/

namespace Sys2Proof.Laws

open Sys2Proof Sys2Proof.Machine

/-- `keepsAllBut`, spelled out. -/
theorem keepsAllBut_iff {xs : List Flag} {f g : Word} : keepsAllBut xs f g ↔
    ∀ k, k < 16 → (∀ x ∈ xs, flagBit x ≠ k) → g.getLsbD k = f.getLsbD k := Iff.rfl

/-- Nothing changed. -/
theorem keepsAllBut_refl (xs : List Flag) (f : Word) : keepsAllBut xs f f := fun _ _ _ => rfl

/-- A flag that may change is written. -/
theorem keepsAllBut_putFlag {xs : List Flag} {x : Flag} (hx : x ∈ xs) (b : Bool) {f g : Word} (h : keepsAllBut xs f g) :
    keepsAllBut xs f (putFlag x b g) := by
  intro k hk hn
  rw [putFlag_getLsbD, if_neg (fun e => hn x hx e.symm)]
  exact h k hk hn

/-- PF counts the ones of the low byte (41_arithmetic R170). -/
theorem evenOnes_eq (b : Byte) : evenOnes b = decide ((List.range 8).countP (fun k => b.getLsbD k) % 2 = 0) := by
  rw [evenOnes, List.countP_eq_length_filter]
  exact (Bool.beq_eq_decide_eq _ _)

/-- SF, ZF and PF as the operations compute them are those of the result. -/
theorem resultFlags_of {w : Nat} {r : BitVec w} {g : Word} (hs : getFlag .SF g = r.msb)
    (hz : getFlag .ZF g = (r == 0#w)) (hp : getFlag .PF g = evenOnes (r.setWidth 8)) : ResultFlags r g := by
  refine ⟨?_, ?_, ?_⟩
  · rw [hs, BitVec.msb_eq_toInt]
  · rw [hz, Bool.beq_eq_decide_eq, decide_eq_decide]
    exact ⟨fun h => by simp [h], fun h => BitVec.eq_of_toNat_eq (by simpa using h)⟩
  · rw [hp, evenOnes_eq, decide_eq_decide]
    have : (List.range 8).countP (fun k => (r.setWidth 8).getLsbD k) = (List.range 8).countP (fun k => r.getLsbD k) := by
      apply List.countP_congr
      intro k hk
      simp only [List.mem_range] at hk
      simp [hk]
    rw [this]

theorem getLsbD_four {w : Nat} (a : BitVec w) : a.getLsbD 4 = decide (a.toNat / 16 % 2 = 1) := by
  rw [BitVec.getLsbD, Nat.testBit_eq_decide_div_mod_eq]

theorem xor_decide (p q : Prop) [Decidable p] [Decidable q] : (decide p ^^ decide q) = decide (¬ (p ↔ q)) := by
  by_cases p <;> by_cases q <;> simp_all

/-- AddOp on numbers (41_arithmetic R171). -/
theorem adds_addOp {w : Nat} (hw : w = 8 ∨ w = 16) (c : Bool) (a b : BitVec w) (f : Word) :
    Adds c a b f (addOp a b c f).1 (addOp a b c f).2 := by
  have hv : (addOp a b c f).1.toNat = (a.toNat + b.toNat + c.toNat) % 2 ^ w := by
    simp [addOp]
  have ha := a.isLt; have hb := b.isLt
  have hc : c.toNat ≤ 1 := by cases c <;> decide
  refine ⟨⟨hv, ?_, ?_, ?_⟩, ?_, ?_⟩
  · rw [getFlag_addOp]
    simp only [BitVec.msb_and, BitVec.msb_xor]
    simp only [BitVec.msb_eq_decide, hv, outsideRange, BitVec.toInt_eq_toNat_cond,
      xor_decide, Bool.and_eq_true, decide_eq_true_eq]
    rcases hw with rfl | rfl <;> norm_num at * <;> split <;> split <;> omega
  · rw [getFlag_addOp]
    simp only [BitVec.getLsbD_xor]
    simp only [getLsbD_four, hv, xor_decide, decide_eq_decide]
    rcases hw with rfl | rfl <;> norm_num at * <;> omega
  · refine resultFlags_of ?_ ?_ ?_ <;> rw [getFlag_addOp]
  · rw [getFlag_addOp]
  · simp only [addOp, szpFlags]
    repeat' (first | exact keepsAllBut_refl _ _ | refine keepsAllBut_putFlag (by decide) _ ?_)

/-- SubOp on numbers (41_arithmetic R172). -/
theorem subtracts_subOp {w : Nat} (hw : w = 8 ∨ w = 16) (c : Bool) (a b : BitVec w) (f : Word) :
    Subtracts c a b f (subOp a b c f).1 (subOp a b c f).2 := by
  have hv : ((subOp a b c f).1.toNat : Int) = ((a.toNat : Int) - b.toNat - c.toNat) % 2 ^ w := by
    rcases hw with rfl | rfl <;> simp [subOp] <;> omega
  have ha := a.isLt; have hb := b.isLt
  have hc : c.toNat ≤ 1 := by cases c <;> decide
  refine ⟨⟨hv, ?_, ?_, ?_⟩, ?_, ?_⟩
  · rw [getFlag_subOp]
    simp only [BitVec.msb_and, BitVec.msb_xor]
    simp only [BitVec.msb_eq_decide, outsideRange, BitVec.toInt_eq_toNat_cond,
      xor_decide, Bool.and_eq_true, decide_eq_true_eq]
    rcases hw with rfl | rfl <;> norm_num at * <;> split <;> split <;> omega
  · rw [getFlag_subOp]
    simp only [BitVec.getLsbD_xor]
    simp only [getLsbD_four, xor_decide, decide_eq_decide]
    rcases hw with rfl | rfl <;> norm_num at * <;> omega
  · refine resultFlags_of ?_ ?_ ?_ <;> rw [getFlag_subOp]
  · rw [getFlag_subOp]
    simp only [decide_eq_decide]
    omega
  · simp only [subOp, szpFlags]
    repeat' (first | exact keepsAllBut_refl _ _ | refine keepsAllBut_putFlag (by decide) _ ?_)

/-- LogicFlags (42_logical R200). -/
theorem logicalFlags_logicFlags {w : Nat} (r : BitVec w) (f : Word) :
    LogicalFlags f r (logicFlags r f) := by
  refine ⟨?_, ?_, ?_, ?_, ?_⟩
  · refine resultFlags_of ?_ ?_ ?_ <;> rw [getFlag_logicFlags]
  · rw [getFlag_logicFlags]
  · rw [getFlag_logicFlags]
  · rw [getFlag_logicFlags]
  · simp only [logicFlags, szpFlags]
    repeat' (first | exact keepsAllBut_refl _ _ | refine keepsAllBut_putFlag (by decide) _ ?_)

end Sys2Proof.Laws
end

