-- ==== Sys2Proof/Laws/Slice.lean ====
section
/-! SUPPORT. What one pass of the loop of `execute` is (70_reset_and_hazards R380): the step and its cost; and how the state
and the count go on from step to step. -/

namespace Sys2Proof.Laws

open Sys2Proof Sys2Proof.Machine

@[simp] theorem afterSteps_zero (s : State) : afterSteps 0 s = s := rfl

theorem afterSteps_succ (n : Nat) (s : State) : afterSteps (n + 1) s = afterSteps n (stepOnce s) := rfl

theorem afterSteps_succ_last (n : Nat) (s : State) : afterSteps (n + 1) s = stepOnce (afterSteps n s) :=
  Function.iterate_succ_apply' stepOnce n s

@[simp] theorem consumedBy_zero (c : Costs) (s : State) : consumedBy c 0 s = 0 := rfl

/-- The first step's cost, and the rest's. -/
theorem consumedBy_succ (c : Costs) (n : Nat) (s : State) :
    consumedBy c (n + 1) s = costOf c s + consumedBy c n (stepOnce s) := by
  simp only [consumedBy, List.range_succ_eq_map, List.map_cons, List.map_map, List.sum_cons, afterSteps_zero]
  rfl

theorem stepOnce_of_next {s t : State} (h : step s = .next t) : stepOnce s = t := by simp [stepOnce, h]

/-- The instruction of a step always retires: what was decoded is what was fetched. -/
theorem instruction_next (s : State) :
    instruction s = .next ((fetchInstruction (clearPrefixes s)).1, retired s) := by
  have run : ∀ (items : List Instr) (a : State), ∃ t, runItems items a = .next t := by
    intro items
    induction items with
    | nil => exact fun a => ⟨a, rfl⟩
    | cons i rest ih =>
      intro a
      obtain ⟨t, ht⟩ := exec_next i a
      obtain ⟨u, hu⟩ := ih t
      exact ⟨u, by simp only [runItems, ht, hu]⟩
  have h : ∃ r, instruction s = .next r ∧ r.1 = (fetchInstruction (clearPrefixes s)).1 := by
    cases hf : (fetchInstruction (clearPrefixes s)).1 with
    | none => exact ⟨_, by simp only [instruction, hf]; rfl, rfl⟩
    | some d =>
      obtain ⟨t, ht⟩ := run (d.prefixes ++ [d.instr]) (fetchInstruction (clearPrefixes s)).2
      exact ⟨_, by simp only [instruction, hf, ht]; rfl, rfl⟩
  obtain ⟨r, hr, he⟩ := h
  have : retired s = r.2 := by simp only [retired, hr]
  rw [hr, this, ← he]

/-- A pass with a well-formed MAP: it never stops, its state is the step's, its cost the sum R380 adds, and it is idle exactly
when the core was halted. -/
theorem onePass_next {s : State} (h : mapWf s.map = true) :
    ∃ p, onePass s = .next p ∧ step s = .next p.state ∧ p.state = stepOnce s ∧ p.accepted = accepts s ∧
      (p.kind = .idle ↔ s.halted = true) ∧ ∀ c, passCost c p = costOf c s := by
  cases hh : s.halted with
  | true =>
    refine ⟨⟨.idle, (checkAndSettle s).1, (checkAndSettle s).2⟩, ?_⟩
    have ho : onePass s = .next ⟨.idle, (checkAndSettle s).1, (checkAndSettle s).2⟩ := by simp [onePass, h, hh]
    have hs : step s = .next (checkAndSettle s).2 := by simp [step, ho]
    refine ⟨ho, hs, (stepOnce_of_next hs).symm, ?_, by simp, fun c => ?_⟩
    · simp [accepts, hh, checkAndSettle]
    · cases hc : (interruptCheck s).1 <;> simp [passCost, costOf, accepts, hh, checkAndSettle, hc]
  | false =>
    refine ⟨⟨.ran (fetchInstruction (clearPrefixes s)).1, (boundary (retired s)).1, (boundary (retired s)).2⟩, ?_⟩
    have ho : onePass s =
        .next ⟨.ran (fetchInstruction (clearPrefixes s)).1, (boundary (retired s)).1, (boundary (retired s)).2⟩ := by
      simp [onePass, h, hh, instruction_next]
    have hs : step s = .next (boundary (retired s)).2 := by simp [step, ho]
    have ha : (boundary (retired s)).1 = accepts s := by
      cases hr : (retired s).resetReq <;> simp [boundary, accepts, hh, hr, checkAndSettle]
    refine ⟨ho, hs, (stepOnce_of_next hs).symm, ha, by simp, fun c => ?_⟩
    simp [passCost, costOf, ha, hh]

/-- With positive costs a step costs nothing exactly when the core is halted and nothing wakes it. -/
theorem costOf_eq_zero {c : Costs} (hi : ∀ d, 0 < c.instr d) (ha : 0 < c.accept) (s : State) :
    costOf c s = 0 ↔ s.halted = true ∧ accepts s = false := by
  have := hi (fetchInstruction (clearPrefixes s)).1
  cases hh : s.halted <;> cases he : accepts s <;> simp [costOf, hh, he] <;> omega

end Sys2Proof.Laws
end

