-- ==== Sys2Proof/Tests/Slice0.lean ====
section
/-! SUPPORT. The author's tests: ill-formed terms that WellFormed refuses; the decoding of one word for each constructor,
written out from the encodings of spec/opcode_table.json and the ModRM table of 30_encoding R96 to R99; the one-step vectors
of 95_test_vectors; and, for each statement with hypotheses, a state that meets them (`witness_…`). -/

namespace Sys2Proof.Tests

-- One theorem at a time: each checks by kernel evaluation, and many at once take more threads than the check allows.
set_option Elab.async false

open Sys2Proof Sys2Proof.Machine

/-- One change of a small state. -/
abbrev Upd := State → State

def rg (r : Reg16) (v : Word) : Upd := setReg16 r v
def sg (j : SReg) (v : Word) : Upd := setSreg j v
def fl (v : Word) : Upd := setFlags v
def pcTo (v : Word) : Upd := setPc v
def halt (b : Bool) : Upd := fun s => { s with halted := b }

/-- Bytes at consecutive cells of store 0, the whole-space RAM of State.reset. -/
def at_ (a : Nat) (bytes : List Byte) : Upd :=
  fun s => { s with mem := fillCells s.mem ((List.range bytes.length).map (· + a) |>.zip bytes) }

def applyAll (us : List Upd) (s : State) : State := us.foldl (fun t u => u t) s

/-- The machine of 95_test_vectors, "Conventions", with the instruction bytes at 0x00100. -/
def vectorState (code : List Byte) (pre : List Upd) : State :=
  applyAll (pre ++ [at_ 0x100 code])
    { State.reset with regs := { Regs.reset with sp := 0x200 }, segs := { Segs.reset with cs := 0 }, pc := 0x100 }

/-- One step from the vector's state gives exactly the state the vector states: `post` after `pc` moved past the
instruction and the hook event was recorded; everything `post` does not name is unchanged. -/
def vector (code : List Byte) (pre post : List Upd) : Bool :=
  let s := vectorState code pre
  match step s with
  | .next t => t == applyAll post { s with pc := s.pc + BitVec.ofNat 16 code.length, trace := [0x100#20] }
  | .fault _ => false
  | .refused _ => false

/-! ## WellFormed -/

/-- `mod = 0` with `rm = 6` is the direct form, so `plain bp` is refused in every kind of operand (30_encoding R96). -/
theorem test_wf_refuses_plain_bp :
    (Instr.addEbGb (.mem (.plain .bp)) .al).wf = false ∧ (Instr.movGwEw .ax (.mem (.plain .bp))).wf = false ∧
    (Instr.lea .ax (.plain .bp)).wf = false ∧ (Instr.jmpFarM (.plain .bp)).wf = false ∧
    (Instr.rolEwCnt8 (.mem (.plain .bp)) 1).wf = false ∧ (Instr.movEwSw (.mem (.plain .bp)) .es).wf = false := by decide

/-- `90` is NOP, so XCHG AX,AX has no one-byte form (40_data_transfer R140, R141). -/
theorem test_wf_refuses_xchg_ax_ax : (Instr.xchgAXR16 .ax).wf = false ∧ (Instr.xchgAXR16 .cx).wf = true := by decide

/-! ## Decoding -/

/-- The bytes decode to the instruction, with nothing left over, and it is well formed. -/
def reads (bytes : List Byte) (i : Instr) : Bool := decide (decodeItem bytes = .got i []) && i.wf

/-- One word for each constructor of data transfer, from spec/opcode_table.json. -/
theorem test_decode_data_transfer :
    ([reads [0x06] (.pushES),
      reads [0x0E] (.pushCS),
      reads [0x16] (.pushSS),
      reads [0x1E] (.pushDS),
      reads [0x07] (.popES),
      reads [0x17] (.popSS),
      reads [0x1F] (.popDS),
      reads [0x51] (.pushR16 .cx),
      reads [0x5F] (.popR16 .di),
      reads [0x86, 0x87, 0x3B, 0x82] (.xchgEbGb (.mem (.disp16 .bx 0x823B)) .al),
      reads [0x87, 0x61, 0x81] (.xchgEwGw (.mem (.disp8 .bxdi 0x81)) .sp),
      reads [0x88, 0xDC] (.movEbGb (.reg .ah) .bl),
      reads [0x89, 0x32] (.movEwGw (.mem (.plain .bpsi)) .si),
      reads [0x8A, 0x8C, 0x38, 0x82] (.movGbEb .cl (.mem (.disp16 .si 0x8238))),
      reads [0x8B, 0xFD] (.movGwEw .di (.reg .bp)),
      reads [0x8C, 0x56, 0x86] (.movEwSw (.mem (.disp8 .bp 0x86)) .ss),
      reads [0x8D, 0x2F] (.lea .bp (.plain .bx)),
      reads [0x8E, 0xC6] (.movESEw (.reg .si)),
      reads [0x8E, 0x91, 0x35, 0x82] (.movSSEw (.mem (.disp16 .bxdi 0x8235))),
      reads [0x8E, 0x5B, 0x83] (.movDSEw (.mem (.disp8 .bpdi 0x83))),
      reads [0x8F, 0xC7] (.popEw (.reg .di)),
      reads [0x90] (.nop),
      reads [0x95] (.xchgAXR16 .bp),
      reads [0x98] (.cbw),
      reads [0x99] (.cwd),
      reads [0x9C] (.pushf),
      reads [0x9D] (.popf),
      reads [0x9E] (.sahf),
      reads [0x9F] (.lahf),
      reads [0xA0, 0x34, 0x12] (.movALMoffs 0x1234),
      reads [0xA1, 0xFF, 0x80] (.movAXMoffs 0x80FF),
      reads [0xA2, 0x01, 0xFF] (.movMoffsAL 0xFF01),
      reads [0xA3, 0x34, 0x12] (.movMoffsAX 0x1234),
      reads [0xB4, 0x80] (.movR8Ib .ah 0x80),
      reads [0xBB, 0x01, 0xFF] (.movR16Iw .bx 0xFF01),
      reads [0xC4, 0xB3, 0x37, 0x82] (.les .si (.disp16 .bpdi 0x8237)),
      reads [0xC5, 0x4D, 0x85] (.lds .cx (.disp8 .di 0x85)),
      reads [0xC6, 0xC6, 0x7F] (.movEbIb (.reg .dh) 0x7F),
      reads [0xC7, 0x06, 0xCD, 0xAB, 0xFF, 0x80] (.movEwIw (.mem (.direct 0xABCD)) 0x80FF),
      reads [0xD7] (.xlat),
      reads [0xFF, 0x71, 0x81] (.pushEw (.mem (.disp8 .bxdi 0x81)))] : List Bool).all id = true := by decide +kernel

/-- One word for each constructor of arithmetic, part 1, from spec/opcode_table.json. -/
theorem test_decode_arithmetic_1 :
    ([reads [0x00, 0xD8] (.addEbGb (.reg .al) .bl),
      reads [0x01, 0x70, 0x80] (.addEwGw (.mem (.disp8 .bxsi 0x80)) .si),
      reads [0x02, 0x09] (.addGbEb .cl (.mem (.plain .bxdi))),
      reads [0x03, 0xF9] (.addGwEw .di (.reg .cx)),
      reads [0x04, 0x7F] (.addALIb 0x7F),
      reads [0x05, 0x34, 0x12] (.addAXIw 0x1234),
      reads [0x10, 0x98, 0x34, 0x82] (.adcEbGb (.mem (.disp16 .bxsi 0x8234)) .bl),
      reads [0x11, 0xF3] (.adcEwGw (.reg .bx) .si),
      reads [0x12, 0x4A, 0x82] (.adcGbEb .cl (.mem (.disp8 .bpsi 0x82))),
      reads [0x13, 0x3B] (.adcGwEw .di (.mem (.plain .bpdi))),
      reads [0x14, 0x01] (.adcALIb 0x01),
      reads [0x15, 0x01, 0xFF] (.adcAXIw 0xFF01),
      reads [0x18, 0xD4] (.sbbEbGb (.reg .ah) .dl),
      reads [0x19, 0xAD, 0x39, 0x82] (.sbbEwGw (.mem (.disp16 .di 0x8239)) .bp),
      reads [0x1A, 0x47, 0x87] (.sbbGbEb .al (.mem (.disp8 .bx 0x87))),
      reads [0x1B, 0xE5] (.sbbGwEw .sp (.reg .bp)),
      reads [0x1C, 0xFE] (.sbbALIb 0xFE),
      reads [0x1D, 0x34, 0x12] (.sbbAXIw 0x1234),
      reads [0x28, 0x15] (.subEbGb (.mem (.plain .di)) .dl),
      reads [0x29, 0xEF] (.subEwGw (.reg .di) .bp),
      reads [0x2A, 0x87, 0x3B, 0x82] (.subGbEb .al (.mem (.disp16 .bx 0x823B))),
      reads [0x2B, 0x61, 0x81] (.subGwEw .sp (.mem (.disp8 .bxdi 0x81))),
      reads [0x2C, 0x80] (.subALIb 0x80),
      reads [0x2D, 0x01, 0xFF] (.subAXIw 0xFF01),
      reads [0x38, 0x56, 0x86] (.cmpEbGb (.mem (.disp8 .bp 0x86)) .dl),
      reads [0x39, 0x2F] (.cmpEwGw (.mem (.plain .bx)) .bp),
      reads [0x3A, 0xC2] (.cmpGbEb .al (.reg .dl)),
      reads [0x3B, 0xA1, 0x35, 0x82] (.cmpGwEw .sp (.mem (.disp16 .bxdi 0x8235))),
      reads [0x3C, 0xFE] (.cmpALIb 0xFE),
      reads [0x3D, 0xFF, 0x80] (.cmpAXIw 0x80FF),
      reads [0x43] (.incR16 .bx),
      reads [0x4E] (.decR16 .si),
      reads [0x80, 0x43, 0x83, 0x7F] (.addEbIb (.mem (.disp8 .bpdi 0x83)) 0x7F),
      reads [0x81, 0xC3, 0x01, 0xFF] (.addEwIw (.reg .bx) 0xFF01),
      reads [0x83, 0x04, 0x80] (.addEwIbs (.mem (.plain .si)) 0x80),
      reads [0x80, 0x11, 0x7F] (.adcEbIb (.mem (.plain .bxdi)) 0x7F),
      reads [0x81, 0xD5, 0xFF, 0x80] (.adcEwIw (.reg .bp) 0x80FF),
      reads [0x83, 0x93, 0x37, 0x82, 0x80] (.adcEwIbs (.mem (.disp16 .bpdi 0x8237)) 0x80),
      reads [0x80, 0x5D, 0x85, 0x01] (.sbbEbIb (.mem (.disp8 .di 0x85)) 0x01),
      reads [0x81, 0xDE, 0x01, 0xFF] (.sbbEwIw (.reg .si) 0xFF01),
      reads [0x83, 0x1E, 0xCD, 0xAB, 0xFE] (.sbbEwIbs (.mem (.direct 0xABCD)) 0xFE),
      reads [0x80, 0x2B, 0x01] (.subEbIb (.mem (.plain .bpdi)) 0x01),
      reads [0x81, 0xE8, 0xFF, 0x80] (.subEwIw (.reg .ax) 0x80FF),
      reads [0x83, 0xAD, 0x39, 0x82, 0xFE] (.subEwIbs (.mem (.disp16 .di 0x8239)) 0xFE),
      reads [0x80, 0xBA, 0x36, 0x82, 0x01] (.cmpEbIb (.mem (.disp16 .bpsi 0x8236)) 0x01)] : List Bool).all id = true := by decide +kernel

/-- One word for each constructor of arithmetic, part 2, from spec/opcode_table.json. -/
theorem test_decode_arithmetic_2 :
    ([reads [0x81, 0xFA, 0x34, 0x12] (.cmpEwIw (.reg .dx) 0x1234),
      reads [0x83, 0x7C, 0x84, 0xFE] (.cmpEwIbs (.mem (.disp8 .si 0x84)) 0xFE),
      reads [0xF6, 0xD8] (.negEb (.reg .al)),
      reads [0xF7, 0x9D, 0x39, 0x82] (.negEw (.mem (.disp16 .di 0x8239))),
      reads [0xFE, 0x47, 0x87] (.incEb (.mem (.disp8 .bx 0x87))),
      reads [0xFE, 0xC9] (.decEb (.reg .cl)),
      reads [0xFF, 0x00] (.incEw (.mem (.plain .bxsi))),
      reads [0xFF, 0x8A, 0x36, 0x82] (.decEw (.mem (.disp16 .bpsi 0x8236)))] : List Bool).all id = true := by decide +kernel

/-- One word for each constructor of logical, from spec/opcode_table.json. -/
theorem test_decode_logical :
    ([reads [0x08, 0x93, 0x37, 0x82] (.orEbGb (.mem (.disp16 .bpdi 0x8237)) .dl),
      reads [0x09, 0x6D, 0x85] (.orEwGw (.mem (.disp8 .di 0x85)) .bp),
      reads [0x0A, 0xC2] (.orGbEb .al (.reg .dl)),
      reads [0x0B, 0x26, 0xCD, 0xAB] (.orGwEw .sp (.mem (.direct 0xABCD))),
      reads [0x0C, 0x80] (.orALIb 0x80),
      reads [0x0D, 0xFF, 0x80] (.orAXIw 0x80FF),
      reads [0x20, 0x18] (.andEbGb (.mem (.plain .bxsi)) .bl),
      reads [0x21, 0xB2, 0x36, 0x82] (.andEwGw (.mem (.disp16 .bpsi 0x8236)) .si),
      reads [0x22, 0xCE] (.andGbEb .cl (.reg .dh)),
      reads [0x23, 0x7C, 0x84] (.andGwEw .di (.mem (.disp8 .si 0x84))),
      reads [0x24, 0x7F] (.andALIb 0x7F),
      reads [0x25, 0xFF, 0x80] (.andAXIw 0x80FF),
      reads [0x30, 0xD8] (.xorEbGb (.reg .al) .bl),
      reads [0x31, 0x32] (.xorEwGw (.mem (.plain .bpsi)) .si),
      reads [0x32, 0x8C, 0x38, 0x82] (.xorGbEb .cl (.mem (.disp16 .si 0x8238))),
      reads [0x33, 0xF9] (.xorGwEw .di (.reg .cx)),
      reads [0x34, 0x01] (.xorALIb 0x01),
      reads [0x35, 0x34, 0x12] (.xorAXIw 0x1234),
      reads [0x80, 0x8E, 0x3A, 0x82, 0x01] (.orEbIb (.mem (.disp16 .bp 0x823A)) 0x01),
      reads [0x81, 0xCC, 0x34, 0x12] (.orEwIw (.reg .sp) 0x1234),
      reads [0x83, 0x48, 0x80, 0xFE] (.orEwIbs (.mem (.disp8 .bxsi 0x80)) 0xFE),
      reads [0x80, 0xA0, 0x34, 0x82, 0x7F] (.andEbIb (.mem (.disp16 .bxsi 0x8234)) 0x7F),
      reads [0x81, 0xE7, 0x34, 0x12] (.andEwIw (.reg .di) 0x1234),
      reads [0x83, 0x62, 0x82, 0x80] (.andEwIbs (.mem (.disp8 .bpsi 0x82)) 0x80),
      reads [0x80, 0x77, 0x87, 0x7F] (.xorEbIb (.mem (.disp8 .bx 0x87)) 0x7F),
      reads [0x81, 0xF1, 0x01, 0xFF] (.xorEwIw (.reg .cx) 0xFF01),
      reads [0x83, 0x30, 0x80] (.xorEwIbs (.mem (.plain .bxsi)) 0x80),
      reads [0x84, 0x15] (.testEbGb (.mem (.plain .di)) .dl),
      reads [0x85, 0xEB] (.testEwGw (.reg .bx) .bp),
      reads [0xA8, 0x7F] (.testALIb 0x7F),
      reads [0xA9, 0xFF, 0x80] (.testAXIw 0x80FF),
      reads [0xF6, 0x80, 0x34, 0x82, 0xFE] (.testEbIb (.mem (.disp16 .bxsi 0x8234)) 0xFE),
      reads [0xF7, 0xC7, 0xFF, 0x80] (.testEwIw (.reg .di) 0x80FF),
      reads [0xF6, 0x52, 0x82] (.notEb (.mem (.disp8 .bpsi 0x82))),
      reads [0xF7, 0x13] (.notEw (.mem (.plain .bpdi)))] : List Bool).all id = true := by decide +kernel

/-- One word for each constructor of shift rotate, from spec/opcode_table.json. -/
theorem test_decode_shift_rotate :
    ([reads [0xC0, 0x04, 0x01] (.rolEbCnt8 (.mem (.plain .si)) 0x01),
      reads [0xC0, 0x8E, 0x3A, 0x82, 0xFE] (.rorEbCnt8 (.mem (.disp16 .bp 0x823A)) 0xFE),
      reads [0xC0, 0xD0, 0x7F] (.rclEbCnt8 (.reg .al) 0x7F),
      reads [0xC0, 0x58, 0x80, 0x80] (.rcrEbCnt8 (.mem (.disp8 .bxsi 0x80)) 0x80),
      reads [0xC0, 0x21, 0x01] (.shlEbCnt8 (.mem (.plain .bxdi)) 0x01),
      reads [0xC0, 0xE9, 0xFE] (.shrEbCnt8 (.reg .cl) 0xFE),
      reads [0xC0, 0xBB, 0x37, 0x82, 0x7F] (.sarEbCnt8 (.mem (.disp16 .bpdi 0x8237)) 0x7F),
      reads [0xC1, 0x45, 0x85, 0x80] (.rolEwCnt8 (.mem (.disp8 .di 0x85)) 0x80),
      reads [0xC1, 0xCA, 0x01] (.rorEwCnt8 (.reg .dx) 0x01),
      reads [0xC1, 0x16, 0xCD, 0xAB, 0xFE] (.rclEwCnt8 (.mem (.direct 0xABCD)) 0xFE),
      reads [0xC1, 0x98, 0x34, 0x82, 0x7F] (.rcrEwCnt8 (.mem (.disp16 .bxsi 0x8234)) 0x7F),
      reads [0xC1, 0xE3, 0x80] (.shlEwCnt8 (.reg .bx) 0x80),
      reads [0xC1, 0x6A, 0x82, 0x01] (.shrEwCnt8 (.mem (.disp8 .bpsi 0x82)) 0x01),
      reads [0xC1, 0x3B, 0xFE] (.sarEwCnt8 (.mem (.plain .bpdi)) 0xFE),
      reads [0xD0, 0xC4] (.rolEb1 (.reg .ah)),
      reads [0xD0, 0x8D, 0x39, 0x82] (.rorEb1 (.mem (.disp16 .di 0x8239))),
      reads [0xD0, 0x57, 0x87] (.rclEb1 (.mem (.disp8 .bx 0x87))),
      reads [0xD0, 0xDD] (.rcrEb1 (.reg .ch)),
      reads [0xD0, 0x20] (.shlEb1 (.mem (.plain .bxsi))),
      reads [0xD0, 0xAA, 0x36, 0x82] (.shrEb1 (.mem (.disp16 .bpsi 0x8236))),
      reads [0xD0, 0xFE] (.sarEb1 (.reg .dh)),
      reads [0xD1, 0x44, 0x84] (.rolEw1 (.mem (.disp8 .si 0x84))),
      reads [0xD1, 0x0D] (.rorEw1 (.mem (.plain .di))),
      reads [0xD1, 0xD7] (.rclEw1 (.reg .di)),
      reads [0xD1, 0x9F, 0x3B, 0x82] (.rcrEw1 (.mem (.disp16 .bx 0x823B))),
      reads [0xD1, 0x61, 0x81] (.shlEw1 (.mem (.disp8 .bxdi 0x81))),
      reads [0xD1, 0xE8] (.shrEw1 (.reg .ax)),
      reads [0xD1, 0x3A] (.sarEw1 (.mem (.plain .bpsi))),
      reads [0xD2, 0x84, 0x38, 0x82] (.rolEbCL (.mem (.disp16 .si 0x8238))),
      reads [0xD2, 0xC9] (.rorEbCL (.reg .cl)),
      reads [0xD2, 0x56, 0x86] (.rclEbCL (.mem (.disp8 .bp 0x86))),
      reads [0xD2, 0x1F] (.rcrEbCL (.mem (.plain .bx))),
      reads [0xD2, 0xE2] (.shlEbCL (.reg .dl)),
      reads [0xD2, 0xA9, 0x35, 0x82] (.shrEbCL (.mem (.disp16 .bxdi 0x8235))),
      reads [0xD2, 0x7B, 0x83] (.sarEbCL (.mem (.disp8 .bpdi 0x83))),
      reads [0xD3, 0xC3] (.rolEwCL (.reg .bx)),
      reads [0xD3, 0x0C] (.rorEwCL (.mem (.plain .si))),
      reads [0xD3, 0x96, 0x3A, 0x82] (.rclEwCL (.mem (.disp16 .bp 0x823A))),
      reads [0xD3, 0xDC] (.rcrEwCL (.reg .sp)),
      reads [0xD3, 0x60, 0x80] (.shlEwCL (.mem (.disp8 .bxsi 0x80))),
      reads [0xD3, 0x29] (.shrEwCL (.mem (.plain .bxdi))),
      reads [0xD3, 0xFD] (.sarEwCL (.reg .bp))] : List Bool).all id = true := by decide +kernel

/-- One word for each constructor of string, from spec/opcode_table.json. -/
theorem test_decode_string :
    ([reads [0xA4] (.movsb),
      reads [0xA5] (.movsw),
      reads [0xA6] (.cmpsb),
      reads [0xA7] (.cmpsw),
      reads [0xAA] (.stosb),
      reads [0xAB] (.stosw),
      reads [0xAC] (.lodsb),
      reads [0xAD] (.lodsw),
      reads [0xAE] (.scasb),
      reads [0xAF] (.scasw)] : List Bool).all id = true := by decide +kernel

/-- One word for each constructor of control transfer, from spec/opcode_table.json. -/
theorem test_decode_control_transfer :
    ([reads [0x70, 0x7F] (.jo 0x7F),
      reads [0x71, 0x80] (.jno 0x80),
      reads [0x72, 0x01] (.jb 0x01),
      reads [0x73, 0xFE] (.jae 0xFE),
      reads [0x74, 0x7F] (.je 0x7F),
      reads [0x75, 0x80] (.jne 0x80),
      reads [0x76, 0x01] (.jbe 0x01),
      reads [0x77, 0xFE] (.ja 0xFE),
      reads [0x78, 0x7F] (.js 0x7F),
      reads [0x79, 0x80] (.jns 0x80),
      reads [0x7A, 0x01] (.jp 0x01),
      reads [0x7B, 0xFE] (.jnp 0xFE),
      reads [0x7C, 0x7F] (.jl 0x7F),
      reads [0x7D, 0x80] (.jge 0x80),
      reads [0x7E, 0x01] (.jle 0x01),
      reads [0x7F, 0xFE] (.jg 0xFE),
      reads [0x9A, 0xFF, 0x80, 0x01, 0xFF] (.callFar 0x80FF 0xFF01),
      reads [0xC2, 0x34, 0x12] (.retPop 0x1234),
      reads [0xC3] (.ret),
      reads [0xCA, 0x01, 0xFF] (.retfPop 0xFF01),
      reads [0xCB] (.retf),
      reads [0xCC] (.int3),
      reads [0xCD, 0x80] (.int 0x80),
      reads [0xCE] (.into),
      reads [0xCF] (.iret),
      reads [0xE0, 0x01] (.loopne 0x01),
      reads [0xE1, 0xFE] (.loope 0xFE),
      reads [0xE2, 0x7F] (.loop 0x7F),
      reads [0xE3, 0x80] (.jcxz 0x80),
      reads [0xE8, 0x34, 0x12] (.callRel16 0x1234),
      reads [0xE9, 0xFF, 0x80] (.jmpRel16 0x80FF),
      reads [0xEA, 0x01, 0xFF, 0x34, 0x12] (.jmpFar 0xFF01 0x1234),
      reads [0xEB, 0x01] (.jmpRel8 0x01),
      reads [0xFF, 0xD2] (.callEw (.reg .dx)),
      reads [0xFF, 0x5C, 0x84] (.callFarM (.disp8 .si 0x84)),
      reads [0xFF, 0x25] (.jmpEw (.mem (.plain .di))),
      reads [0xFF, 0xAF, 0x3B, 0x82] (.jmpFarM (.disp16 .bx 0x823B))] : List Bool).all id = true := by decide +kernel

/-- One word for each constructor of processor control, from spec/opcode_table.json. -/
theorem test_decode_processor_control :
    ([reads [0xF4] (.hlt),
      reads [0xF5] (.cmc),
      reads [0xF8] (.clc),
      reads [0xF9] (.stc),
      reads [0xFA] (.cli),
      reads [0xFB] (.sti),
      reads [0xFC] (.cld),
      reads [0xFD] (.std),
      reads [0xF0] (.lock)] : List Bool).all id = true := by decide +kernel

/-- One word for each constructor of prefixes, from spec/opcode_table.json. -/
theorem test_decode_prefixes :
    ([reads [0x26] (.segES),
      reads [0x2E] (.segCS),
      reads [0x36] (.segSS),
      reads [0x3E] (.segDS),
      reads [0xF2] (.repne),
      reads [0xF3] (.rep)] : List Bool).all id = true := by decide +kernel

/-! ## One step -/

/-- Vectors of 95_test_vectors (DT1, DT2, DT3, DT4, DT5, DT6, DT7, DT8, DT9, DT10, DT11, DT12, DT13, DT14, DT15,
DT16), and others worked by hand from the rules of 40_data_transfer. -/
theorem test_step_data_transfer_1 :
    ([vector [0xB0, 0x7F] [rg .ax 0x1234] [rg .ax 0x127F],
      vector [0xB4, 0x80] [rg .ax 0x1234] [rg .ax 0x8034],
      vector [0x8B, 0x07] [rg .bx 0xFFFF, sg .ds 0x1000, at_ 0x1FFFF [0x34], at_ 0x10000 [0x12]] [rg .ax 0x1234],
      vector [0x8E, 0xD0] [rg .ax 0x3000] [sg .ss 0x3000],
      vector [0x8E, 0xC8] [at_ 0x18 [0x00, 0x05, 0x00, 0x00]] [rg .sp 0x01FA, at_ 0x1FA [0x00, 0x01, 0x00, 0x00, 0x02, 0xF0], pcTo 0x0500],
      vector [0x87, 0xCB] [rg .bx 0x1111, rg .cx 0x2222] [rg .bx 0x2222, rg .cx 0x1111],
      vector [0x8D, 0x40, 0xFE] [rg .bx 0x0001] [rg .ax 0xFFFF],
      vector [0xC5, 0x1E, 0x00, 0x03] [at_ 0x300 [0x78, 0x56, 0x00, 0x20]] [rg .bx 0x5678, sg .ds 0x2000],
      vector [0xD7] [rg .bx 0x0400, rg .ax 0x1205, at_ 0x405 [0xAA]] [rg .ax 0x12AA],
      vector [0x54] [] [rg .sp 0x01FE, at_ 0x1FE [0xFE, 0x01]],
      vector [0x5C] [rg .sp 0x01FE, at_ 0x1FE [0x34, 0x12]] [rg .sp 0x1234],
      vector [0x9C] [fl 0xF246] [rg .sp 0x01FE, at_ 0x1FE [0x46, 0xF2]],
      vector [0x9D] [rg .sp 0x01FE, at_ 0x1FE [0xFF, 0xFF]] [rg .sp 0x0200, fl 0xFFD7],
      vector [0x9D] [rg .sp 0x01FE, at_ 0x1FE [0x00, 0x00], fl 0xFFD7] [rg .sp 0x0200, fl 0xF002],
      vector [0x9E] [rg .ax 0xFF00] [fl 0xF0D7],
      vector [0x9F] [fl 0xF0D7] [rg .ax 0xD700]] : List Bool).all id = true := by decide +kernel

/-- Vectors of 95_test_vectors (DT17, DT18, DT19, DT20, DT21, DT22, DT23, DT24, DT25, DT26, DT27, DT28, DT29), and
others worked by hand from the rules of 40_data_transfer. -/
theorem test_step_data_transfer_2 :
    ([vector [0x98] [rg .ax 0x0080] [rg .ax 0xFF80],
      vector [0x99] [rg .ax 0x8000, rg .dx 0x1234] [rg .dx 0xFFFF],
      vector [0x8F, 0x06, 0x00, 0x03] [rg .sp 0x01FE, at_ 0x1FE [0xCD, 0xAB]] [rg .sp 0x0200, at_ 0x300 [0xCD, 0xAB]],
      vector [0x26, 0x8A, 0x07] [rg .bx 0x0010, sg .es 0x2000, sg .ds 0x3000, at_ 0x20010 [0x5A], at_ 0x30010 [0xA5]] [rg .ax 0x005A],
      vector [0x8C, 0xD8] [sg .ds 0x4321] [rg .ax 0x4321],
      vector [0x8C, 0xE0] [at_ 0x18 [0x00, 0x05, 0x00, 0x00]] [rg .sp 0x01FA, at_ 0x1FA [0x00, 0x01, 0x00, 0x00, 0x02, 0xF0], pcTo 0x0500],
      vector [0x50] [rg .ax 0xBEEF, rg .sp 0x0000, sg .ss 0x1000] [rg .sp 0xFFFE, at_ 0x1FFFE [0xEF, 0xBE]],
      vector [0x8B, 0x46, 0x00] [rg .bp 0x0020, sg .ss 0x2000, sg .ds 0x3000, at_ 0x20020 [0x11, 0x11], at_ 0x30020 [0x22, 0x22]] [rg .ax 0x1111],
      vector [0xC6, 0x06, 0x00, 0x03, 0x77] [] [at_ 0x300 [0x77]],
      vector [0xA3, 0xFF, 0xFF] [rg .ax 0xA1B2, sg .ds 0x1000] [at_ 0x1FFFF [0xB2], at_ 0x10000 [0xA1]],
      vector [0x93] [rg .ax 0x0001, rg .bx 0x0002] [rg .ax 0x0002, rg .bx 0x0001],
      vector [0x1F] [rg .sp 0x01FE, at_ 0x1FE [0x00, 0x40]] [sg .ds 0x4000, rg .sp 0x0200],
      vector [0xFF, 0x36, 0xFE, 0xFF] [at_ 0xFFFE [0x77, 0x88]] [rg .sp 0x01FE, at_ 0x1FE [0x77, 0x88]],
      vector [0xC4, 0x3E, 0x00, 0x04] [at_ 0x400 [0x11, 0x22, 0x33, 0x44]] [rg .di 0x2211, sg .es 0x4433],
      vector [0xA1, 0x00, 0x02] [at_ 0x200 [0xCD, 0xAB]] [rg .ax 0xABCD],
      vector [0x2E, 0xA0, 0x00, 0x02] [sg .cs 0x0000, sg .ds 0x1000, at_ 0x200 [0xCD], rg .ax 0x1100] [rg .ax 0x11CD]] : List Bool).all id = true := by decide +kernel

/-- Vectors of 95_test_vectors (), and others worked by hand from the rules of 40_data_transfer. -/
theorem test_step_data_transfer_3 :
    ([vector [0x26, 0xA2, 0x10, 0x00] [sg .es 0x1000, rg .ax 0x1234] [at_ 0x10010 [0x34]],
      vector [0x5B] [rg .sp 0x01FE, at_ 0x1FE [0x34, 0x12]] [rg .sp 0x0200, rg .bx 0x1234],
      vector [0x86, 0xE0] [rg .ax 0x1234] [rg .ax 0x3412],
      vector [0x89, 0x1F] [rg .bx 0x0300] [at_ 0x300 [0x00, 0x03]],
      vector [0x88, 0x27] [rg .bx 0x0300, rg .ax 0x7711] [at_ 0x300 [0x77]],
      vector [0xC7, 0x06, 0x00, 0x03, 0xCD, 0xAB] [] [at_ 0x300 [0xCD, 0xAB]],
      vector [0xB8, 0x34, 0x12] [] [rg .ax 0x1234],
      vector [0x06] [sg .es 0x1234] [rg .sp 0x01FE, at_ 0x1FE [0x34, 0x12]],
      vector [0x0E] [] [rg .sp 0x01FE, at_ 0x1FE [0x00, 0x00]],
      vector [0x16] [sg .ss 0x0000] [rg .sp 0x01FE],
      vector [0x1E] [sg .ds 0xABCD] [rg .sp 0x01FE, at_ 0x1FE [0xCD, 0xAB]],
      vector [0x07] [rg .sp 0x01FE, at_ 0x1FE [0x00, 0x40]] [sg .es 0x4000, rg .sp 0x0200],
      vector [0x17] [rg .sp 0x01FE, at_ 0x1FE [0x00, 0x40]] [sg .ss 0x4000, rg .sp 0x0200],
      vector [0x8E, 0xC0] [rg .ax 0x3000] [sg .es 0x3000],
      vector [0x8E, 0xD8] [rg .ax 0x3000] [sg .ds 0x3000],
      vector [0x90] [] []] : List Bool).all id = true := by decide +kernel

/-- Vectors of 95_test_vectors (AR1, AR2, AR3, AR4, AR5, AR6, AR7, AR8, AR9, AR10, AR11, AR12, AR13, AR14, AR15,
AR16), and others worked by hand from the rules of 41_arithmetic. -/
theorem test_step_arithmetic_1 :
    ([vector [0x04, 0x01] [rg .ax 0x007F] [rg .ax 0x0080, fl 0xF892],
      vector [0x04, 0x01] [rg .ax 0x00FF] [rg .ax 0x0000, fl 0xF057],
      vector [0x14, 0x00] [rg .ax 0x00FF, fl 0xF003] [rg .ax 0x0000, fl 0xF057],
      vector [0x2C, 0x01] [rg .ax 0x0000] [rg .ax 0x00FF, fl 0xF097],
      vector [0x1C, 0x00] [fl 0xF003] [rg .ax 0x00FF, fl 0xF097],
      vector [0x1C, 0xFF] [fl 0xF003] [rg .ax 0x0000, fl 0xF057],
      vector [0x39, 0xD8] [rg .ax 0x1234, rg .bx 0x1234] [fl 0xF046],
      vector [0x40] [rg .ax 0xFFFF] [rg .ax 0x0000, fl 0xF056],
      vector [0x40] [rg .ax 0x7FFF, fl 0xF003] [rg .ax 0x8000, fl 0xF897],
      vector [0x48] [] [rg .ax 0xFFFF, fl 0xF096],
      vector [0x48] [rg .ax 0x8000] [rg .ax 0x7FFF, fl 0xF816],
      vector [0xF6, 0xD8] [fl 0xF003] [fl 0xF046],
      vector [0xF6, 0xD8] [rg .ax 0x0080] [fl 0xF883],
      vector [0xF7, 0xD8] [rg .ax 0x0001] [rg .ax 0xFFFF, fl 0xF097],
      vector [0x83, 0xC0, 0xFF] [rg .ax 0x0001] [rg .ax 0x0000, fl 0xF057],
      vector [0x01, 0xD8] [rg .ax 0x8000, rg .bx 0x8000] [rg .ax 0x0000, fl 0xF847]] : List Bool).all id = true := by decide +kernel

/-- Vectors of 95_test_vectors (AR17, AR18, AR19, AR20, AR21, AR22), and others worked by hand from the rules of
41_arithmetic. -/
theorem test_step_arithmetic_2 :
    ([vector [0x80, 0x06, 0x00, 0x03, 0xFF] [at_ 0x300 [0x01]] [at_ 0x300 [0x00], fl 0xF057],
      vector [0x3D, 0x00, 0x80] [rg .ax 0x7FFF] [fl 0xF887],
      vector [0x15, 0x01, 0x00] [rg .ax 0xFFFE, fl 0xF003] [rg .ax 0x0000, fl 0xF057],
      vector [0xFE, 0x0E, 0x00, 0x03] [at_ 0x300 [0x80]] [at_ 0x300 [0x7F], fl 0xF812],
      vector [0x2A, 0xC0] [rg .ax 0x5577] [rg .ax 0x5500, fl 0xF046],
      vector [0x81, 0xEB, 0x01, 0x00] [rg .bx 0x0000] [rg .bx 0xFFFF, fl 0xF097],
      vector [0xFE, 0x07] [rg .bx 0x0300, at_ 0x300 [0x7F]] [at_ 0x300 [0x80], fl 0xF892],
      vector [0xFF, 0x07] [rg .bx 0x0300, at_ 0x300 [0xFF, 0x00]] [at_ 0x300 [0x00, 0x01], fl 0xF016],
      vector [0xFF, 0x0E, 0x00, 0x02] [at_ 0x200 [0x01, 0x00]] [at_ 0x200 [0x00, 0x00], fl 0xF046],
      vector [0x83, 0xD2, 0x00] [rg .dx 0x0001, fl 0xF003] [rg .dx 0x0002, fl 0xF002]] : List Bool).all id = true := by decide +kernel

/-- Vectors of 95_test_vectors (LG1, LG2, LG3, LG4, LG5, LG6, LG7, LG8), and others worked by hand from the rules of
42_logical. -/
theorem test_step_logical :
    ([vector [0x31, 0xC0] [rg .ax 0xFFFF, fl 0xF813] [rg .ax 0x0000, fl 0xF046],
      vector [0x24, 0x0F] [rg .ax 0x00F3, fl 0xF813] [rg .ax 0x0003, fl 0xF006],
      vector [0x0D, 0x00, 0x80] [rg .ax 0x0001] [rg .ax 0x8001, fl 0xF082],
      vector [0xA8, 0x80] [rg .ax 0x007F] [fl 0xF046],
      vector [0xF6, 0xD0] [rg .ax 0x00AA, fl 0xF8D7] [rg .ax 0x0055],
      vector [0xF7, 0x06, 0x00, 0x03, 0x01, 0x00] [at_ 0x300 [0x01, 0x00]] [],
      vector [0x85, 0xC0] [rg .ax 0x8000] [fl 0xF086],
      vector [0x80, 0x36, 0x00, 0x03, 0xFF] [at_ 0x300 [0xFF]] [at_ 0x300 [0x00], fl 0xF046],
      vector [0xF7, 0xD1] [rg .cx 0x00FF] [rg .cx 0xFF00],
      vector [0x83, 0xE0, 0xF0] [rg .ax 0xFFFF] [rg .ax 0xFFF0, fl 0xF086]] : List Bool).all id = true := by decide +kernel

/-- Vectors of 95_test_vectors (SH1, SH2, SH3, SH4, SH5, SH6, SH7, SH8, SH9, SH10, SH11, SH12, SH13, SH14, SH15,
SH17), and others worked by hand from the rules of 43_shift_rotate. -/
theorem test_step_shift_rotate_1 :
    ([vector [0xD2, 0xE0] [rg .ax 0x0081, rg .cx 0x0000, fl 0xF012] [rg .ax 0x0081, fl 0xF012],
      vector [0xD2, 0xE0] [rg .ax 0x0081, rg .cx 0x0001, fl 0xF012] [rg .ax 0x0002, fl 0xF813],
      vector [0xD2, 0xE0] [rg .ax 0x0081, rg .cx 0x0007, fl 0xF012] [rg .ax 0x0080, fl 0xF892],
      vector [0xD2, 0xE0] [rg .ax 0x0081, rg .cx 0x0008, fl 0xF012] [rg .ax 0x0000, fl 0xF857],
      vector [0xD2, 0xE0] [rg .ax 0x0081, rg .cx 0x0009, fl 0xF012] [rg .ax 0x0000, fl 0xF056],
      vector [0xD2, 0xE0] [rg .ax 0x0081, rg .cx 0x001F, fl 0xF012] [rg .ax 0x0000, fl 0xF056],
      vector [0xD2, 0xE0] [rg .ax 0x0081, rg .cx 0x0020, fl 0xF012] [rg .ax 0x0081, fl 0xF012],
      vector [0xD2, 0xE0] [rg .ax 0x0081, rg .cx 0x0021, fl 0xF012] [rg .ax 0x0002, fl 0xF813],
      vector [0xD2, 0xE8] [rg .ax 0x0081, rg .cx 0x0001, fl 0xF002] [rg .ax 0x0040, fl 0xF803],
      vector [0xD2, 0xE8] [rg .ax 0x0081, rg .cx 0x0002, fl 0xF002] [rg .ax 0x0020, fl 0xF002],
      vector [0xD2, 0xE8] [rg .ax 0x0081, rg .cx 0x0008, fl 0xF002] [rg .ax 0x0000, fl 0xF047],
      vector [0xD2, 0xE8] [rg .ax 0x0081, rg .cx 0x0009, fl 0xF002] [rg .ax 0x0000, fl 0xF046],
      vector [0xD2, 0xF8] [rg .ax 0x0081, rg .cx 0x0001, fl 0xF002] [rg .ax 0x00C0, fl 0xF087],
      vector [0xD2, 0xF8] [rg .ax 0x0081, rg .cx 0x0007, fl 0xF002] [rg .ax 0x00FF, fl 0xF086],
      vector [0xD2, 0xF8] [rg .ax 0x0081, rg .cx 0x001F, fl 0xF002] [rg .ax 0x00FF, fl 0xF087],
      vector [0xD2, 0xC0] [rg .ax 0x0081, rg .cx 0x0001, fl 0xF002] [rg .ax 0x0003, fl 0xF803]] : List Bool).all id = true := by decide +kernel

/-- Vectors of 95_test_vectors (SH18, SH19, SH20, SH21, SH22, SH23, SH24, SH25, SH26, SH27, SH28, SH29, SH16, SH30,
SH31, SH32), and others worked by hand from the rules of 43_shift_rotate. -/
theorem test_step_shift_rotate_2 :
    ([vector [0xD2, 0xC0] [rg .ax 0x0081, rg .cx 0x0004, fl 0xF002] [rg .ax 0x0018, fl 0xF002],
      vector [0xD2, 0xC0] [rg .ax 0x0081, rg .cx 0x0008, fl 0xF002] [rg .ax 0x0081, fl 0xF003],
      vector [0xD2, 0xC0] [rg .ax 0x0081, rg .cx 0x0009, fl 0xF002] [rg .ax 0x0003, fl 0xF803],
      vector [0xD2, 0xC8] [rg .ax 0x0081, rg .cx 0x0001, fl 0xF002] [rg .ax 0x00C0, fl 0xF003],
      vector [0xD2, 0xC8] [rg .ax 0x0081, rg .cx 0x0008, fl 0xF002] [rg .ax 0x0081, fl 0xF803],
      vector [0xD2, 0xD0] [rg .ax 0x0081, rg .cx 0x0001, fl 0xF002] [rg .ax 0x0002, fl 0xF803],
      vector [0xD2, 0xD0] [rg .ax 0x0081, rg .cx 0x0001, fl 0xF003] [rg .ax 0x0003, fl 0xF803],
      vector [0xD2, 0xD0] [rg .ax 0x0081, rg .cx 0x0009, fl 0xF003] [rg .ax 0x0081, fl 0xF003],
      vector [0xD2, 0xD0] [rg .ax 0x0081, rg .cx 0x0008, fl 0xF002] [rg .ax 0x0040, fl 0xF803],
      vector [0xD2, 0xD8] [rg .ax 0x0081, rg .cx 0x0001, fl 0xF003] [rg .ax 0x00C0, fl 0xF003],
      vector [0xD2, 0xD8] [rg .ax 0x0081, rg .cx 0x0009, fl 0xF002] [rg .ax 0x0081, fl 0xF802],
      vector [0xD2, 0xD8] [rg .ax 0x0081, rg .cx 0x0011, fl 0xF003] [rg .ax 0x0003, fl 0xF003],
      vector [0xC1, 0xF8, 0x04] [rg .ax 0x8000] [rg .ax 0xF800, fl 0xF086],
      vector [0xD3, 0xDB] [rg .bx 0x0001, rg .cx 0x0011, fl 0xF003] [fl 0xF003],
      vector [0xD1, 0x26, 0x00, 0x03] [at_ 0x300 [0x00, 0x40]] [at_ 0x300 [0x00, 0x80], fl 0xF886],
      vector [0xD3, 0xE1] [rg .cx 0x0004] [rg .cx 0x0040, fl 0xF002]] : List Bool).all id = true := by decide +kernel

/-- Vectors of 95_test_vectors (SH33, SH34), and others worked by hand from the rules of 43_shift_rotate. -/
theorem test_step_shift_rotate_3 :
    ([vector [0xD0, 0xF0] [at_ 0x18 [0x00, 0x05, 0x00, 0x00]] [rg .sp 0x01FA, at_ 0x1FA [0x00, 0x01, 0x00, 0x00, 0x02, 0xF0], pcTo 0x0500],
      vector [0xC0, 0xC0, 0x00] [rg .ax 0x0081, fl 0xF803] [],
      vector [0xC0, 0xF8, 0x02] [rg .ax 0x0086] [rg .ax 0x00E1, fl 0xF087],
      vector [0xD0, 0xC8] [rg .ax 0x0001] [rg .ax 0x0080, fl 0xF803]] : List Bool).all id = true := by decide +kernel

/-- Vectors of 95_test_vectors (ST1, ST2, ST3, ST4, ST5, ST6, ST7, ST8, ST9, ST10, ST11, ST12, ST13), and others
worked by hand from the rules of 44_string. -/
theorem test_step_string :
    ([vector [0xF3, 0xA4] [rg .cx 0x0003, rg .si 0x0300, rg .di 0x0400, sg .ds 0x1000, sg .es 0x2000, at_ 0x10300 [0x11, 0x22, 0x33]] [at_ 0x20400 [0x11, 0x22, 0x33], rg .cx 0x0, rg .si 0x0303, rg .di 0x0403],
      vector [0xF3, 0xA4] [rg .cx 0x0000] [],
      vector [0xF3, 0xA6] [rg .cx 0x0005, rg .si 0x0300, rg .di 0x0400, at_ 0x300 [0x01, 0x02, 0x03, 0x04, 0x05], at_ 0x400 [0x01, 0x02, 0xFF, 0x04, 0x05]] [rg .cx 0x0002, rg .si 0x0303, rg .di 0x0403, fl 0xF013],
      vector [0xF2, 0xAE] [rg .ax 0x0003, rg .cx 0x0005, rg .di 0x0400, at_ 0x400 [0x01, 0x02, 0x03, 0x04, 0x05]] [rg .cx 0x0002, rg .di 0x0403, fl 0xF046],
      vector [0xF2, 0xAE] [rg .ax 0x0009, rg .cx 0x0002, rg .di 0x0400, at_ 0x400 [0x01, 0x02, 0x03, 0x04, 0x05]] [rg .cx 0x0000, rg .di 0x0402, fl 0xF002],
      vector [0xAB] [rg .ax 0xBEEF, rg .di 0x0400, fl 0xF402] [at_ 0x400 [0xEF, 0xBE], rg .di 0x03FE],
      vector [0x2E, 0xAC] [rg .si 0x0100] [rg .ax 0x002E, rg .si 0x0101],
      vector [0xF3, 0xAB] [rg .ax 0x5555, rg .cx 0x0002, rg .di 0xFFFF, sg .es 0x1000] [at_ 0x1FFFF [0x55], at_ 0x10000 [0x55, 0x55, 0x55], rg .di 0x0003, rg .cx 0x0000],
      vector [0xA5] [rg .si 0x0300, rg .di 0x0300, at_ 0x300 [0x34, 0x12]] [rg .si 0x0302, rg .di 0x0302],
      vector [0xF3, 0xA6] [rg .cx 0x0000] [],
      vector [0x26, 0xF3, 0xA4] [rg .cx 0x0001, rg .si 0x0300, rg .di 0x0400, sg .ds 0x1000, sg .es 0x2000, at_ 0x20300 [0x77]] [at_ 0x20400 [0x77], rg .cx 0x0, rg .si 0x0301, rg .di 0x0401],
      vector [0xF3, 0xAC] [rg .cx 0x0003, rg .si 0x0300, at_ 0x300 [0x0A, 0x0B, 0x0C]] [rg .ax 0x000C, rg .si 0x0303, rg .cx 0x0],
      vector [0xAF] [rg .ax 0x0001, rg .di 0x0400, at_ 0x400 [0x02, 0x00]] [rg .di 0x0402, fl 0xF097],
      vector [0xA7] [rg .si 0x0300, rg .di 0x0310, at_ 0x300 [0x00, 0x80], at_ 0x310 [0x01, 0x00]] [rg .si 0x0302, rg .di 0x0312, fl 0xF816],
      vector [0xAD] [rg .si 0x0010, at_ 0x10 [0xCD, 0xAB]] [rg .ax 0xABCD, rg .si 0x0012],
      vector [0xAA] [rg .ax 0x0042, rg .di 0x0300] [at_ 0x300 [0x42], rg .di 0x0301]] : List Bool).all id = true := by decide +kernel

/-- Vectors of 95_test_vectors (CT1, CT2, CT3, CT5, CT6, CT7, CT8, CT9, CT10, CT11, CT12, CT13, CT14, CT15, CT16,
CT17), and others worked by hand from the rules of 45_control_transfer. -/
theorem test_step_control_transfer_1 :
    ([vector [0x74, 0x05] [fl 0xF042] [pcTo 0x0107],
      vector [0x74, 0x05] [] [],
      vector [0xEB, 0xFE] [] [pcTo 0x0100],
      vector [0xE2, 0x10] [rg .cx 0x0001] [rg .cx 0x0],
      vector [0xE2, 0x10] [rg .cx 0x0] [rg .cx 0xFFFF, pcTo 0x0112],
      vector [0xE1, 0x10] [rg .cx 0x0005] [rg .cx 0x0004],
      vector [0xE1, 0x10] [rg .cx 0x0005, fl 0xF042] [rg .cx 0x0004, pcTo 0x0112],
      vector [0xE0, 0x10] [rg .cx 0x0001] [rg .cx 0x0],
      vector [0xE3, 0x10] [] [pcTo 0x0112],
      vector [0xE8, 0xFD, 0xFF] [] [rg .sp 0x01FE, at_ 0x1FE [0x03, 0x01], pcTo 0x0100],
      vector [0xC3] [rg .sp 0x01FE, at_ 0x1FE [0x34, 0x12]] [pcTo 0x1234, rg .sp 0x0200],
      vector [0xC2, 0x04, 0x00] [rg .sp 0x01FE, at_ 0x1FE [0x34, 0x12]] [pcTo 0x1234, rg .sp 0x0204],
      vector [0x9A, 0x78, 0x56, 0x34, 0x12] [] [rg .sp 0x01FC, at_ 0x1FC [0x05, 0x01, 0x00, 0x00], sg .cs 0x1234, pcTo 0x5678],
      vector [0xCB] [rg .sp 0x01FC, at_ 0x1FC [0x78, 0x56, 0x34, 0x12]] [pcTo 0x5678, sg .cs 0x1234, rg .sp 0x0200],
      vector [0xCA, 0x02, 0x00] [rg .sp 0x01FC, at_ 0x1FC [0x78, 0x56, 0x34, 0x12]] [pcTo 0x5678, sg .cs 0x1234, rg .sp 0x0202],
      vector [0xEA, 0x00, 0x00, 0xFF, 0xFF] [] [sg .cs 0xFFFF, pcTo 0x0000]] : List Bool).all id = true := by decide +kernel

/-- Vectors of 95_test_vectors (CT18, CT19, CT20, CT21, CT22, CT23, CT24, CT25, CT26, CT27, CT28, CT29, CT30, CT32),
and others worked by hand from the rules of 45_control_transfer. -/
theorem test_step_control_transfer_2 :
    ([vector [0xFF, 0xE3] [rg .bx 0x4444] [pcTo 0x4444],
      vector [0xFF, 0x2E, 0x00, 0x03] [at_ 0x300 [0x78, 0x56, 0x34, 0x12]] [pcTo 0x5678, sg .cs 0x1234],
      vector [0xFF, 0xEB] [at_ 0x18 [0x00, 0x05, 0x00, 0x00]] [rg .sp 0x01FA, at_ 0x1FA [0x00, 0x01, 0x00, 0x00, 0x02, 0xF0], pcTo 0x0500],
      vector [0xFF, 0x16, 0x00, 0x03] [at_ 0x300 [0x00, 0x60]] [rg .sp 0x01FE, at_ 0x1FE [0x04, 0x01], pcTo 0x6000],
      vector [0xFF, 0x1E, 0x00, 0x03] [at_ 0x300 [0x78, 0x56, 0x34, 0x12]] [rg .sp 0x01FC, at_ 0x1FC [0x04, 0x01, 0x00, 0x00], sg .cs 0x1234, pcTo 0x5678],
      vector [0xCD, 0x21] [fl 0xF302, at_ 0x84 [0x00, 0x07, 0x00, 0x80]] [rg .sp 0x01FA, at_ 0x1FA [0x02, 0x01, 0x00, 0x00, 0x02, 0xF3], pcTo 0x0700, sg .cs 0x8000, fl 0xF002],
      vector [0xCC] [at_ 0xC [0x11, 0x00, 0x22, 0x00]] [rg .sp 0x01FA, at_ 0x1FA [0x01, 0x01, 0x00, 0x00, 0x02, 0xF0], pcTo 0x0011, sg .cs 0x0022],
      vector [0xCE] [] [],
      vector [0xCE] [fl 0xFA02, at_ 0x10 [0x11, 0x00, 0x22, 0x00]] [rg .sp 0x01FA, at_ 0x1FA [0x01, 0x01, 0x00, 0x00, 0x02, 0xFA], pcTo 0x0011, sg .cs 0x0022, fl 0xF802],
      vector [0xCF] [rg .sp 0x01FA, at_ 0x1FA [0x34, 0x12, 0x78, 0x56, 0xFF, 0xFF]] [pcTo 0x1234, sg .cs 0x5678, fl 0xFFD7, rg .sp 0x0200],
      vector [0x7C, 0xFE] [fl 0xF082] [pcTo 0x0100],
      vector [0x7F, 0x02] [] [pcTo 0x0104],
      vector [0x76, 0x02] [fl 0xF003] [pcTo 0x0104],
      vector [0xFF, 0xD4] [] [rg .sp 0x01FE, at_ 0x1FE [0x02, 0x01], pcTo 0x0200],
      vector [0xE0, 0xF0] [rg .cx 0x0005] [rg .cx 0x0004, pcTo 0x00F2],
      vector [0xE9, 0xFD, 0xFF] [] [pcTo 0x0100]] : List Bool).all id = true := by decide +kernel

/-- Vectors of 95_test_vectors (PC1, PC2, PC3, PC4, PC5, PC6, PC7, PC8, PC9, PC10), and others worked by hand from the
rules of 46_processor_control. -/
theorem test_step_processor_control :
    ([vector [0xF9] [] [fl 0xF003],
      vector [0xF8] [fl 0xF003] [fl 0xF002],
      vector [0xF5] [fl 0xF003] [fl 0xF002],
      vector [0xFB] [] [fl 0xF202],
      vector [0xFA] [fl 0xF202] [fl 0xF002],
      vector [0xFD] [] [fl 0xF402],
      vector [0xFC] [fl 0xF402] [fl 0xF002],
      vector [0xF4] [] [halt true],
      vector [0xF0, 0x90] [] [],
      vector [0xF0, 0xF4] [] [halt true]] : List Bool).all id = true := by decide +kernel

/-- Vectors of 95_test_vectors (EX1, EX2, EX2b), and others worked by hand from the rules of 60_exceptions. -/
theorem test_step_exceptions :
    ([vector [0x0F] [at_ 0x18 [0x00, 0x05, 0x00, 0x00]] [rg .sp 0x01FA, at_ 0x1FA [0x00, 0x01, 0x00, 0x00, 0x02, 0xF0], pcTo 0x0500],
      vector [0x26, 0x26, 0x26, 0x26, 0x26] [at_ 0x18 [0x00, 0x05, 0x00, 0x00]] [rg .sp 0x01FA, at_ 0x1FA [0x00, 0x01, 0x00, 0x00, 0x02, 0xF0], pcTo 0x0500],
      vector [0x26, 0x26, 0x26, 0x26, 0x90] [] []] : List Bool).all id = true := by decide +kernel

/-- The conditional jumps, taken and not taken, worked by hand from 45_control_transfer R261, both ways. -/
theorem test_step_jumps_1 :
    ([vector [0x70, 0x10] [fl 0xF802] [pcTo 0x0112],
      vector [0x70, 0x10] [fl 0xF002] [],
      vector [0x71, 0x10] [fl 0xF002] [pcTo 0x0112],
      vector [0x71, 0x10] [fl 0xF802] [],
      vector [0x72, 0x10] [fl 0xF003] [pcTo 0x0112],
      vector [0x72, 0x10] [fl 0xF002] [],
      vector [0x73, 0x10] [fl 0xF002] [pcTo 0x0112],
      vector [0x73, 0x10] [fl 0xF003] [],
      vector [0x75, 0x10] [fl 0xF002] [pcTo 0x0112],
      vector [0x75, 0x10] [fl 0xF042] [],
      vector [0x76, 0x10] [fl 0xF042] [pcTo 0x0112],
      vector [0x76, 0x10] [fl 0xF002] [],
      vector [0x77, 0x10] [fl 0xF002] [pcTo 0x0112],
      vector [0x77, 0x10] [fl 0xF043] [],
      vector [0x78, 0x10] [fl 0xF082] [pcTo 0x0112],
      vector [0x78, 0x10] [fl 0xF002] []] : List Bool).all id = true := by decide +kernel

/-- The conditional jumps, taken and not taken, worked by hand from 45_control_transfer R261, both ways. -/
theorem test_step_jumps_2 :
    ([vector [0x79, 0x10] [fl 0xF002] [pcTo 0x0112],
      vector [0x79, 0x10] [fl 0xF082] [],
      vector [0x7A, 0x10] [fl 0xF006] [pcTo 0x0112],
      vector [0x7A, 0x10] [fl 0xF002] [],
      vector [0x7B, 0x10] [fl 0xF002] [pcTo 0x0112],
      vector [0x7B, 0x10] [fl 0xF006] [],
      vector [0x7D, 0x10] [fl 0xF882] [pcTo 0x0112],
      vector [0x7D, 0x10] [fl 0xF802] [],
      vector [0x7E, 0x10] [fl 0xF802] [pcTo 0x0112],
      vector [0x7E, 0x10] [fl 0xF882] [],
      vector [0x7F, 0x10] [fl 0xF882] [pcTo 0x0112],
      vector [0x7F, 0x10] [fl 0xF042] []] : List Bool).all id = true := by decide +kernel

/-! ## Interrupts, reset, the Router -/

/-- The state after one step, or the state itself if the step stops. -/
def after (s : State) : State :=
  match step s with
  | .next t => t
  | .fault _ => s
  | .refused _ => s

/-- The device answers a byte and does nothing else. -/
def answers (v : Byte) : DevAnswer := { value := v, irqs := [], reset := false }

/-- The interrupt vectors of 95_test_vectors 2.8: 2 at 0700, 20 at 0600, 21 at 0800. -/
def interruptState (code : List Byte) (pre : List Upd) : State :=
  vectorState code ([at_ 0x08 [0x00, 0x07, 0x00, 0x00], at_ 0x80 [0x00, 0x06, 0x00, 0x00],
    at_ 0x84 [0x00, 0x08, 0x00, 0x00]] ++ pre)

/-- The six bytes on top of the stack. -/
def top6 (s : State) : List Byte := (segBytes6 s).map fun a => peek8 a s
where segBytes6 (s : State) : List Addr := (List.range 6).map fun k => phys s.segs.ss (s.regs.sp + BitVec.ofNat 16 k)

/-- EX3, step 3: STI, then INT is accepted at its boundary; a level line that is still 1 stays pending. -/
theorem test_ex3_sti_then_int :
    let t := after (setIrqLine 0 1 { interruptState [0xFB] [] with devScript := [answers 0x20] })
    t.pc = 0x0600 ∧ t.flags = 0xF002 ∧ t.regs.sp = 0x01FA ∧ t.vector = 0x20 ∧ t.pending = 1 ∧ t.devLog = [.ack] ∧
      t.trace = [0x00100] ∧ top6 t = [0x01, 0x01, 0x00, 0x00, 0x02, 0xF2] := by decide +kernel

/-- EX4: NMI with IF = 0; the edge latch is cleared though the line is still 1. EX6: NMI before INT. -/
theorem test_ex4_ex6_nmi_first :
    (let t := after (setIrqLine 1 1 (interruptState [0x90] []));
      t.pc = 0x0700 ∧ t.vector = 2 ∧ t.pending = 0 ∧ t.lineNmi = true ∧
        top6 t = [0x01, 0x01, 0x00, 0x00, 0x02, 0xF0]) ∧
    (let t := after (setIrqLine 0 1 (setIrqLine 1 1 (interruptState [0x90] [fl 0xF202])));
      t.pc = 0x0700 ∧ t.vector = 2 ∧ t.pending = 1 ∧ t.flags = 0xF002 ∧ t.devLog = [] ∧
        top6 t = [0x01, 0x01, 0x00, 0x00, 0x02, 0xF2]) := by decide +kernel

/-- EX5: MOV SS,AX opens the window, so the pending NMI waits for the instruction after it. -/
theorem test_ex5_window :
    let t := after (setIrqLine 1 1 (interruptState [0x8E, 0xD0, 0xBC, 0x00, 0x03, 0x90] [rg .ax 0x1000]))
    t.segs.ss = 0x1000 ∧ t.pc = 0x0102 ∧ t.pending = 2 ∧ t.noint = false ∧
      (after t).pc = 0x0700 ∧ (after t).regs.sp = 0x02FA ∧
      top6 (after t) = [0x05, 0x01, 0x00, 0x00, 0x02, 0xF0] := by decide +kernel

/-- EX7: a request that is dropped again: lost with `Level`, kept with `Edge`. -/
theorem test_ex7_level_edge :
    (setIrqLine 0 0 (setIrqLine 0 1 State.reset)).pending = 0 ∧
    (setIrqLine 0 0 (setIrqLine 0 1 { State.reset with latchInt := .edge })).pending = 1 := by decide +kernel

/-- EX8: while halted, a masked request does not wake; with IF = 1 the acceptance wakes and no hook event is recorded. -/
theorem test_ex8_halt_and_wake :
    (let s := setIrqLine 0 1 (interruptState [] [halt true, pcTo 0x0101]); after s = s) ∧
    (let t := after (setIrqLine 0 1 { interruptState [] [halt true, pcTo 0x0101, fl 0xF202] with devScript := [answers 0x21] });
      t.halted = false ∧ t.pc = 0x0800 ∧ t.trace = [] ∧ top6 t = [0x01, 0x01, 0x00, 0x00, 0x02, 0xF2]) := by
  decide +kernel

/-- EX10: reset from a state with every register set; the next fetch is at FFFF0. -/
theorem test_ex10_reset :
    let s : State := { State.reset with
      regs := { ax := 0x1111, cx := 0x2222, dx := 0x3333, bx := 0x4444, sp := 0x5555, bp := 0x6666, si := 0x7777, di := 0x8888 }
      segs := { es := 1, cs := 2, ss := 3, ds := 4 }, pc := 0x99, flags := 0xFFD7, vector := 9, pending := 3, halted := true,
      noint := true, lineInt := true, lineNmi := true }
    hostReset s = State.reset ∧ phys State.reset.segs.cs State.reset.pc = 0xFFFF0 := by decide +kernel

/-- The MAP of 95_test_vectors 2.9; store 1 holds EA at its first cell, standing for the ROM filled with EA. -/
def routerState : State :=
  { vectorState [] [] with
    map := [
      { start := 0x08000, last := 0x08003, target := .handler 0 true true, mirror := 0x000F0 },
      { start := 0x00000, last := 0x03FFF, target := .ram 0, mirror := 0x04000 },
      { start := 0xF0000, last := 0xFFFFF, target := .rom 1, mirror := 0 },
      { start := 0x08000, last := 0x08FFF, target := .ram 2, mirror := 0 } ]
    mem := Memory.set [] (cellOf 1 0) 0xEA
    devScript := [answers 0x40, answers 0x41] }

/-- RT1 to RT6: mirror images, an unmapped byte, ROM, a mirrored handler, shadowing. -/
theorem test_router_bytes :
    let s := routerState
    (read8 0x04123 (write8 0x00123 0x5A s)).1 = 0x5A ∧ (read8 0x03FFF (write8 0x07FFF 0xA5 s)).1 = 0xA5 ∧
    read8 0x09000 (write8 0x09000 0x01 s) = (0xFF, s) ∧ read8 0xF0000 (write8 0xF0000 0x00 s) = (0xEA, s) ∧
    (read8 0x080F3 s).2.devLog = [.read 0 3] ∧ (write8 0x08022 0x07 s).devLog = [.write 0 2 0x07] ∧
    (read8 0x08004 (write8 0x08004 0x99 s)).1 = 0x99 ∧ (memRead 0x100123 1 (write8 0x00123 0x5A s)).1 = 0x5A := by
  decide +kernel

/-- RT7 to RT9: a word across two regions, a word store as two handler calls, INC of a handler byte. -/
theorem test_router_words :
    (let t := after { routerState with mem := (applyAll [at_ 0x100 [0xA1, 0xFF, 0x7F], at_ 0x3FFF [0x11]] routerState).mem };
      t.regs.ax = 0x4011 ∧ t.devLog = [.read 0 0]) ∧
    (let t := after (applyAll [at_ 0x100 [0xC7, 0x06, 0x02, 0x80, 0x34, 0x12]] routerState);
      t.devLog = [.write 0 2 0x34, .write 0 3 0x12]) ∧
    (let t := after (applyAll [at_ 0x100 [0xFE, 0x06, 0x00, 0x80]] routerState);
      t.devLog = [.read 0 0, .write 0 0 0x41] ∧ t.flags = 0xF006) := by decide +kernel

/-- The debug of S1: a word written is read back modulo 2^16, low byte first. -/
theorem test_word_in_memory :
    let s := memWrite 0x300 2 0x1BEEF (vectorState [] [])
    (memRead 0x300 2 s).1 = 0xBEEF ∧ peek8 0x300 s = 0xEF ∧ peek8 0x301 s = 0xBE := by decide +kernel

/-- `withFetchWord` places a table word where the next step fetches, from reset and from a halted state on an empty MAP:
8B 07 is numbered 0x8B07, and the operand bytes of MOV AX,1234 count on from bit 16. -/
theorem test_withFetchWord :
    (after (State.reset.withFetchWord 16 0x8B07)).pc = 2 ∧
    (after (({ State.reset with map := [], halted := true }).withFetchWord 8 0xF9)).flags = 0xF003 ∧
    decodeTableWord 16 0x8B07 = some (.movGwEw .ax (.mem (.plain .bx))) := by decide +kernel

/-- `execute`: S6 and P1, a constant loaded and a halt, with the rest of the slice consumed halted. -/
theorem test_execute_loads_and_halts :
    (match execute unitCosts 5 (vectorState [0xB8, 0x34, 0x12, 0xF4] []) with
      | .next (k, t) => k == 5 && t.regs.ax == 0x1234 && haltedFlag t && t.pc == 0x104
      | .fault _ => false
      | .refused _ => false) = true := by decide +kernel

/-- A handler that answers 5A, asserts NMI, raises and drops INT, and asks for a reset (20_memory R57, 60_exceptions R325). -/
theorem test_handler_answer :
    let a : DevAnswer := { value := 0x5A, irqs := [⟨1, 1⟩, ⟨0, 1⟩, ⟨0, 0⟩], reset := true }
    let r := callDevice (.read 0 3) { routerState with devScript := [a] }
    r.1 = 0x5A ∧ r.2.lineNmi = true ∧ r.2.lineInt = false ∧ r.2.pending = 2 ∧ r.2.resetReq = true ∧ r.2.devScript = [] ∧
      r.2.mem = routerState.mem ∧ r.2.regs = routerState.regs := by decide +kernel

/-! ## Witnesses: a state that meets the hypotheses of each statement

Every witness below meets, together, all the hypotheses of the statement it is named after; where the statement has clauses
that exclude each other, there is one at the boundary for each. -/

/-- A small state: registers and flags set, some bytes of memory, the whole space RAM. -/
def wit : State :=
  vectorState [] [rg .ax 0x8001, rg .cx 0x0002, rg .bx 0x0300, rg .si 0x0310, rg .di 0x0320, fl 0xF002,
    at_ 0x310 [0x11, 0x22, 0x33, 0x44]]

/-- A step that does not stop answers a next state. -/
def runs (o : Result) : Bool :=
  match o with
  | .next _ => true
  | .fault _ => false
  | .refused _ => false

theorem exists_next {o : Result} (h : runs o = true) : ∃ t, o = .next t := by
  cases o with
  | next t => exact ⟨t, rfl⟩
  | fault _ => cases h
  | refused _ => cases h

theorem witness_RegisterFrame : ∃ t, exec (.addEbGb (.reg .al) .cl) wit = .next t ∧
    Reg16.bx ∉ (effects (.addEbGb (.reg .al) .cl) wit).regs16 ∧
    (∀ b ∈ (effects (.addEbGb (.reg .al) .cl) wit).regs8, wholeOf b ≠ .bx) ∧
    Reg8.ah ∉ (effects (.addEbGb (.reg .al) .cl) wit).regs8 ∧
    wholeOf .ah ∉ (effects (.addEbGb (.reg .al) .cl) wit).regs16 := ⟨_, rfl, by decide⟩

theorem witness_FlagFrame : ∃ t, exec (.incR16 .ax) wit = .next t ∧ Flag.CF ∉ (effects (.incR16 .ax) wit).flags ∧
    FlagsFixed wit.flags := ⟨_, rfl, by decide⟩

theorem witness_SegmentAndPcFrame : ∃ t, exec .popES wit = .next t ∧ SReg.ds ∉ (effects .popES wit).sregs ∧
    (effects .popES wit).jumps = false := ⟨_, rfl, by decide⟩

/-- On a MAP with a device, which the instruction does not reach. -/
theorem witness_ControlStateFrame : (∃ t, exec .movsb routerState = .next t) ∧ Instr.movsb ≠ .hlt ∧
    (effects .movsb routerState).window = false ∧ Instr.movsb.isPrefix = false ∧
    quiet (loads .movsb routerState ++ (effects .movsb routerState).stores) routerState = true ∧
    isDevice routerState.map 0x08000 = true :=
  ⟨⟨_, rfl⟩, by decide, rfl, rfl, by decide +kernel, by decide +kernel⟩

theorem witness_MemoryFrame :
    (∃ t, exec (.movEwGw (.mem (.plain .bx)) .ax) wit = .next t ∧
      ∀ a ∈ (effects (.movEwGw (.mem (.plain .bx)) .ax) wit).stores, writeCell wit.map a ≠ readCell wit.map 0x302) ∧
    (∃ t, exec .nop wit = .next t ∧ (effects .nop wit).stores = []) := by
  have h : (effects (.movEwGw (.mem (.plain .bx)) .ax) wit).stores.all
      (fun a => decide (writeCell wit.map a ≠ readCell wit.map 0x302)) = true := by decide +kernel
  exact ⟨⟨_, rfl, fun a ha => of_decide_eq_true (List.all_eq_true.mp h a ha)⟩, ⟨_, rfl, rfl⟩⟩

theorem witness_DecodeOfEncode : (Instr.addEwIw (.mem (.disp16 .bp 0xFFFF)) 0x8000).wf = true := by decide

theorem witness_DecodeOfEncodeWithPrefixes :
    let d : Decoded := { prefixes := [.segES, .rep, .lock, .segSS], instr := .movsb }
    d.instr.wf = true ∧ d.instr.isPrefix = false ∧ d.prefixes.all Instr.isPrefix = true ∧ d.prefixes.length ≤ 4 := by decide

theorem witness_EncodeOfDecode : decodeItem [0x89, 0x07, 0x90] = .got (.movEwGw (.mem (.plain .bx)) .ax) [0x90] := by decide

theorem witness_TenBytesDecide :
    let b : List Byte := [0x26, 0x26, 0x26, 0x26, 0xC7, 0x06, 0x00, 0x03, 0xCD, 0xAB]
    10 ≤ b.length ∧ (decodeBytes b ≠ .illegal) ∧ decodeBytes (List.replicate 10 0x26) = .illegal := by decide +kernel

theorem witness_IllegalEncodings :
    (0x0F : Byte) ∈ illegalOpcodes ∧ (0x8E : Byte) ∉ illegalOpcodes ∧ illegalModRM 0x8E 0xC8 = true ∧
    illegalModRM 0x8E 0xC0 = false ∧ [Instr.lock, .rep, .segES, .segES, .repne].all Instr.isPrefix = true := by decide

/-- Effective counts 0 (raw 0x20), 1 and 31 (43_shift_rotate R220). -/
theorem witness_ShiftResults :
    (0x20 : Byte).toNat % 32 = 0 ∧ (0x01 : Byte).toNat % 32 ≠ 0 ∧ (0xFF : Byte).toNat % 32 = 31 := by decide

theorem witness_RotateResults : (0x00 : Byte).toNat % 32 = 0 ∧ (0x1F : Byte).toNat % 32 ≠ 0 := by decide

/-- A register destination, and a byte and a word of RAM, the word wrapping at the end of its segment. -/
theorem witness_MoveToOperand :
    place16 (.reg .sp) wit = .reg .sp ∧ place16 (.mem (.direct 0xFFFF)) wit = .mem .ds 0xFFFF ∧
    Memory.wf wit.mem = true ∧ onRam (segBytes .ds 0xFFFF 1 wit) wit = true ∧
    onRam (segBytes .ds 0xFFFF 2 wit) wit = true := by decide +kernel

theorem witness_PushResults : Memory.wf wit.mem = true ∧ onRam (segBytes .ss (wit.regs.sp - 2) 2 wit) wit = true ∧
    (let s : State := { wit with regs := { wit.regs with sp := 0 } };
      onRam (segBytes .ss (s.regs.sp - 2) 2 s) s = true) := by decide +kernel

theorem witness_PopResults : quiet (segBytes .ss wit.regs.sp 2 wit) wit = true ∧
    (let s : State := { wit with regs := { wit.regs with sp := 0xFFFF } };
      quiet (segBytes .ss s.regs.sp 2 s) s = true ∧ onRam (segBytes .ds 0x300 2 s) s = true) := by decide +kernel

theorem witness_AccumulatorTransfers : FlagsFixed wit.flags := by decide

theorem witness_StringElements : wit.rep = none := rfl

theorem witness_RepeatedMoves : ({ wit with rep := some .ne }).rep = some .ne ∧
    Instr.movsw ∈ [Instr.movsb, .movsw, .stosb, .stosw, .lodsb, .lodsw] := by decide

/-- A count of 2, and one of 0. -/
theorem witness_RepeatedCompares : ({ wit with rep := some .e }).rep = some .e ∧ wit.regs.cx = 2 ∧
    Instr.scasb ∈ [Instr.cmpsb, .cmpsw, .scasb, .scasw] := by decide

theorem witness_RepeatedMoveCopies :
    let s : State := { wit with rep := some .e }
    Memory.wf s.mem = true ∧ onRam (elementBytes 1 s) s = true ∧ s.regs.cx = 2 ∧ ∀ k, k < s.regs.cx.toNat →
      isDevice s.map (phys (s.sreg (sourceSeg s)) (s.regs.si + BitVec.ofNat 16 k * stride 1 s)) = false ∧
      (∀ a ∈ elementBytes 1 s,
        writeCell s.map a ≠ readCell s.map (phys (s.sreg (sourceSeg s)) (s.regs.si + BitVec.ofNat 16 k * stride 1 s))) := by
  intro s
  have h : (List.range 2).all (fun k =>
      !isDevice s.map (phys (s.sreg (sourceSeg s)) (s.regs.si + BitVec.ofNat 16 k * stride 1 s)) &&
      (elementBytes 1 s).all fun a => decide (writeCell s.map a ≠
        readCell s.map (phys (s.sreg (sourceSeg s)) (s.regs.si + BitVec.ofNat 16 k * stride 1 s)))) = true := by
    decide +kernel
  refine ⟨by decide +kernel, by decide +kernel, rfl, fun k hk => ?_⟩
  have := List.all_eq_true.mp h k (List.mem_range.mpr hk)
  rw [Bool.and_eq_true, Bool.not_eq_true'] at this
  exact ⟨this.1, fun a ha => of_decide_eq_true (List.all_eq_true.mp this.2 a ha)⟩

/-- Each condition is met by some flags and not met by others. -/
theorem witness_ConditionalJumps :
    ∀ x ∈ [Flag.CF, .PF, .ZF, .SF, .OF], getFlag x 0xF8D7 = true ∧ getFlag x 0xF002 = false := by decide

/-- Equal, unsigned less but signed greater, and the reverse. -/
theorem witness_JumpsAfterCompare :
    (∃ t, exec (.cmpEwGw (.reg .cx) .cx) wit = .next t) ∧ (∃ t, exec (.cmpEwGw (.reg .cx) .ax) wit = .next t) ∧
    (∃ t, exec (.cmpEwGw (.reg .ax) .cx) wit = .next t) ∧ wit.regs.cx.toNat < wit.regs.ax.toNat ∧
    wit.regs.ax.toInt < wit.regs.cx.toInt := ⟨⟨_, rfl⟩, ⟨_, rfl⟩, ⟨_, rfl⟩, by decide⟩

/-- The new CX is 0, is not 0, and has wrapped. -/
theorem witness_LoopResults : (1 : Word) - 1 = 0 ∧ (2 : Word) - 1 ≠ 0 ∧ (0 : Word) - 1 = 0xFFFF ∧
    getFlag .ZF 0xF042 = true ∧ getFlag .ZF 0xF002 = false := by decide

theorem witness_CallResults : Memory.wf wit.mem = true ∧ onRam (segBytes .ss (wit.regs.sp - 2) 2 wit) wit = true := by
  decide +kernel

theorem witness_CallReturnRoundTrip : Memory.wf wit.mem = true ∧
    onRam (segBytes .ss (wit.regs.sp - 2) 2 wit) wit = true ∧
    onRam (segBytes .ss (wit.regs.sp - 4) 4 wit) wit = true := by decide +kernel

theorem witness_SoftwareInterrupts : getFlag .OF 0xF802 = true ∧ getFlag .OF wit.flags = false ∧
    Memory.wf wit.mem = true ∧ onRam (segBytes .ss (wit.regs.sp - 6) 6 wit) wit = true ∧
    quiet ((List.range 4).map fun k => BitVec.ofNat 20 (4 * (0xFF : Byte).toNat + k)) wit = true ∧
    quiet (segBytes .ss (wit.regs.sp - 6) 6 wit ++ vectorBytes 0xFF) wit = true := by decide +kernel

theorem witness_TrapReturnRoundTrip : Memory.wf wit.mem = true ∧ FlagsFixed wit.flags ∧
    onRam (segBytes .ss (wit.regs.sp - 6) 6 wit) wit = true ∧
    quiet ((List.range 4).map fun k => BitVec.ofNat 20 (4 * (0x21 : Byte).toNat + k)) wit = true := by decide +kernel

theorem witness_PrefixRun : [Instr.segES, .rep, .lock, .segCS].all Instr.isPrefix = true ∧
    ([] : List Instr).all Instr.isPrefix = true := by decide

/-- The code bytes at CS:pc, read one by one. -/
theorem bytesAt_of_all {j : SReg} {off : Word} {bytes : List Byte} {s : State}
    (h : (List.range bytes.length).all (fun k => peekByte j (off + BitVec.ofNat 16 k) s == bytes.getD k 0) = true) :
    bytesAt j off bytes s := by
  intro k hk
  have := List.all_eq_true.mp h k (List.mem_range.mpr hk)
  rw [beq_iff_eq] at this
  rw [this, List.getD_eq_getElem _ _ hk]

theorem witness_StepRunsDecodedInstruction :
    let s := vectorState [0x26, 0xF3, 0xA4] []
    decodeBytes [0x26, 0xF3, 0xA4] = .got { prefixes := [.segES, .rep], instr := .movsb } [] ∧
    bytesAt .cs s.pc [0x26, 0xF3, 0xA4] s ∧ quiet (segBytes .cs s.pc 3 s) s = true ∧ s.halted = false ∧
    mapWf s.map = true :=
  ⟨by decide +kernel, bytesAt_of_all (by decide +kernel), by decide +kernel, by decide +kernel, by decide +kernel⟩

theorem witness_IllegalOpcodeTraps :
    let s := vectorState [0x8E, 0xC8] []
    decodeBytes [0x8E, 0xC8] = .illegal ∧ (∀ k, k < 2 → decodeBytes (([0x8E, 0xC8] : List Byte).take k) = .more) ∧
    bytesAt .cs s.pc [0x8E, 0xC8] s ∧ quiet (segBytes .cs s.pc 2 s) s = true ∧ s.halted = false ∧
    mapWf s.map = true ∧ s.Settled :=
  ⟨by decide +kernel, by decide +kernel, bytesAt_of_all (by decide +kernel), by decide +kernel, by decide +kernel,
    by decide +kernel, by decide +kernel⟩

/-- A MAP that meets the conditions, and one whose range bit is ignored (20_memory R52). -/
theorem witness_StepRefusesOnlyIllFormedMap :
    (∀ d ∈ wit.map, d.start.toNat ≤ d.last.toNat ∧ d.start &&& d.mirror = 0 ∧ d.last &&& d.mirror = 0) ∧
    ¬ (∀ d ∈ [({ start := 0, last := 1, target := .ram 0, mirror := 1 } : Region)],
      d.start.toNat ≤ d.last.toNat ∧ d.start &&& d.mirror = 0 ∧ d.last &&& d.mirror = 0) := by
  constructor
  · intro d hd
    simp only [wit, vectorState, applyAll] at hd
    have : d = { start := 0x00000#20, last := 0xFFFFF#20, target := .ram 0, mirror := 0#20 } := by
      simpa [State.reset, State.powerOn, Config.resetMap, at_, rg, fl] using hd
    subst this
    decide
  · decide

theorem witness_StepKeepsInvariant :
    let s := vectorState [0x90] []
    s.Inv ∧ (match step s with
      | .next t => t.pc == 0x101
      | .fault _ => false
      | .refused _ => false) = true := by decide +kernel

theorem witness_StepRecordsHook : (∃ t, step (vectorState [0x90] []) = .next t) ∧
    (∃ t, step (vectorState [0x90] [halt true]) = .next t) ∧ (vectorState [0x90] []).halted = false :=
  ⟨exists_next (by decide +kernel), exists_next (by decide +kernel), rfl⟩

/-- Nothing pending, a masked INT, an enabled INT whose acknowledge asks for a reset, and an NMI. -/
theorem witness_HaltedCoreWaits :
    let s := vectorState [] [halt true]
    let u := setIrqLine 0 1 { s with flags := 0xF202, devScript := [{ value := 0x21, irqs := [], reset := true }] }
    mapWf s.map = true ∧ s.halted = true ∧ s.Settled ∧ pendingNmi s = false ∧ pendingInt s = false ∧
      getFlag .IF s.flags = false ∧ pendingNmi (setIrqLine 0 1 s) = false ∧ pendingInt (setIrqLine 0 1 s) = true ∧
      u.Settled ∧ u.halted = true ∧ pendingInt u = true ∧ getFlag .IF u.flags = true ∧
      (interruptCheck u).2.resetReq = true ∧
      (setIrqLine 1 1 s).Settled ∧ pendingNmi (setIrqLine 1 1 s) = true := by decide +kernel

theorem witness_RouterSelectsFirstMatch : (select routerState.map 0x08003).isSome = true ∧
    select routerState.map 0x09000 = none := by decide +kernel

/-- One address for each case: unmapped, RAM, ROM, a handler with both sides, and one with neither. -/
theorem witness_RouterByteAccess :
    select routerState.map 0x09000 = none ∧
    (select routerState.map 0x08FFF).map (·.target) = some (.ram 2) ∧
    (select routerState.map 0xFFFFF).map (·.target) = some (.rom 1) ∧
    (select routerState.map 0x080F3).map (·.target) = some (.handler 0 true true) ∧
    (select [({ start := 0, last := 0, target := .handler 1 false false, mirror := 0 } : Region)] 0).map (·.target) =
      some (.handler 1 false false) := by decide +kernel

theorem witness_RouterLaws :
    Memory.wf wit.mem = true ∧ onRam ((List.range 4).map fun k => BitVec.ofNat 20 (0xFFFFE + k)) wit = true ∧
    select routerState.map 0x03FFF = select routerState.map 0x07FFF ∧
    (0x03FFF : Addr) &&& ~~~(0x04000 : Addr) = (0x07FFF : Addr) &&& ~~~(0x04000 : Addr) ∧
    select routerState.map 0x09000 = none := by decide +kernel

theorem witness_SegmentedAccess :
    let s : State := { wit with segs := { wit.segs with ds := 0xFFFF } }
    quiet (segBytes .ds 0xFFFF 2 s) s = true ∧ Memory.wf s.mem = true ∧ onRam (segBytes .ds 0xFFFF 2 s) s = true := by
  decide +kernel

theorem witness_DeviceAccessedOnce :
    select routerState.map (phys (routerState.sreg (eaSeg (.direct 0x8003) routerState)) (eaOff (.direct 0x8003) routerState)) =
      some { start := 0x08000, last := 0x08003, target := .handler 0 true true, mirror := 0x000F0 } ∧
    (∃ t, exec (.addEbGb (.mem (.direct 0x8003)) .al) routerState = .next t) ∧
    (∃ t, exec (.cmpEbGb (.mem (.direct 0x8003)) .al) routerState = .next t) ∧
    (∃ t, exec (.movEbGb (.mem (.direct 0x8003)) .al) routerState = .next t) :=
  ⟨by decide +kernel, ⟨_, rfl⟩, ⟨_, rfl⟩, ⟨_, rfl⟩⟩

/-- Both policies of both lines; an answer from the script, and one that is free. -/
theorem witness_IrqLatching : State.reset.latchInt = .level ∧ State.reset.latchNmi = .edge ∧
    ({ State.reset with latchInt := .edge, latchNmi := .level }).latchInt = .edge ∧
    ({ State.reset with latchInt := .edge, latchNmi := .level }).latchNmi = .level ∧
    ({ State.reset with devScript := [answers 0x40, answers 0x41] }).devScript.head? = some (answers 0x40) ∧
    (State.reset.devScript = [] ∧ Config.device (State.reset.devLog ++ [.ack]) = Config.device [.ack]) :=
  ⟨rfl, rfl, rfl, rfl, rfl, rfl, rfl⟩

/-- The window, NMI, INT with IF = 1, INT masked, nothing pending. -/
theorem witness_InterruptCheckCases :
    ({ wit with noint := true }).noint = true ∧
    ((setIrqLine 1 1 wit).noint = false ∧ (setIrqLine 1 1 wit).pending.getLsbD 1 = true) ∧
    (let s := setIrqLine 0 1 { wit with flags := 0xF202 };
      s.noint = false ∧ s.pending.getLsbD 1 = false ∧ s.pending.getLsbD 0 = true ∧ getFlag .IF s.flags = true) ∧
    ((setIrqLine 0 1 wit).pending.getLsbD 0 = true ∧ getFlag .IF (setIrqLine 0 1 wit).flags = false) ∧
    (wit.noint = false ∧ wit.pending = 0) := by decide +kernel

/-- A request before the check; one that the acknowledge makes; none. -/
theorem witness_ResetOperation :
    ({ wit with resetReq := true }).resetReq = true ∧
    (let s : State := setIrqLine 0 1 { wit with flags := 0xF202, devScript := [{ value := 0x21, irqs := [], reset := true }] };
      s.resetReq = false ∧ (interruptCheck s).2.resetReq = true) ∧
    (wit.resetReq = false ∧ (interruptCheck wit).2.resetReq = false) := by decide +kernel

/-- The indices at the ends of the ranges: 0, 8, 13 in the first clause, 9, 14, 15 in their own, 16 outside. -/
theorem witness_RegistersByIndex :
    readRegister 0 (writeRegister 0 0x1FFFF wit) = 0xFFFF ∧ readRegister 8 (writeRegister 8 0x8000 wit) = 0x8000 ∧
    readRegister 13 (writeRegister 13 0xFFFF wit) = 0xFFFF ∧ readRegister 9 (writeRegister 9 0xFFFF wit) = 0xFFD7 ∧
    readRegister 9 (writeRegister 9 0 wit) = 0xF002 ∧ readRegister 14 (writeRegister 14 0x1FF wit) = 0xFF ∧
    readRegister 15 (writeRegister 15 7 wit) = 3 ∧ readRegister 16 (writeRegister 16 7 wit) = 0 := by decide +kernel

/-- The segment of a memory operand: DS and SS by default, and an override in place of either (30_encoding R96). -/
theorem witness_EffectiveAddressResults :
    place16 (.mem (.plain .bx)) wit = .mem .ds 0x300 ∧ place8 (.mem (.disp8 .bp 0xFF)) wit = .mem .ss 0xFFFF ∧
    place8 (.mem (.direct 0x1234)) wit = .mem .ds 0x1234 ∧
    place16 (.mem (.disp16 .bpsi 0xFFFF)) { wit with segov := some .es } = .mem .es 0x30F := by decide +kernel

/-- AX is 8001, so AL is 01 and AH is 80 (10_state R21). -/
theorem witness_MoveToRegister : wit.reg8 .al = 0x01 ∧ wit.reg8 .ah = 0x80 ∧
    (setReg8 .ah 0x7F wit).regs.ax = 0x7F01 := by decide +kernel

/-- Counts 0, 1 and 2 on a running state, with costs 1 and with others: a slice that ends with its budget, and one that a
halted core burns after its HLT. -/
theorem witness_ExecuteConsumesCycles : (0 : Int) ≤ 0 ∧ (0 : Int) < 1 ∧ mapWf (vectorState [0x90] []).map = true ∧
    (∀ d, 0 < unitCosts.instr d) ∧ 0 < unitCosts.accept ∧
    (let s := vectorState [0xF4] [];
      consumedBy unitCosts 1 s = 1 ∧ costOf unitCosts (afterSteps 1 s) = 0 ∧ (afterSteps 1 s).halted = true) ∧
    (let s := vectorState [] [halt true];
      mapWf s.map = true ∧ s.halted = true ∧ s.Settled ∧ pendingNmi s = false ∧ pendingInt s = false) :=
  ⟨by decide, by decide, by decide +kernel, fun _ => Nat.one_pos, Nat.one_pos, by decide +kernel, by decide +kernel⟩

end Sys2Proof.Tests
end

section
/-! The laws of the Router: selection by the first match in list order (20_memory R53), and the three laws of R79. -/

namespace Sys2Proof.Proofs

open Sys2Proof Sys2Proof.Machine Sys2Proof.Laws

/-! ### Selection -/

/-- The model's test of a descriptor is the match of 20_memory R53 on numbers. -/
theorem covers_iff_matchesAddr {d : Region} {a : Addr} : covers d a = true ↔ matchesAddr d a := by
  simp [covers, matchesAddr, foldAddr, BitVec.le_def]

theorem select_eq_some_iff {map : List Region} {a : Addr} {d : Region} : select map a = some d ↔
    ∃ pre post, map = pre ++ d :: post ∧ matchesAddr d a ∧ ∀ e ∈ pre, ¬ matchesAddr e a := by
  simp only [select, List.find?_eq_some_iff_append, covers_iff_matchesAddr, Bool.not_eq_true', ← Bool.not_eq_true]
  constructor
  · rintro ⟨hd, pre, post, hmap, hpre⟩
    exact ⟨pre, post, hmap, hd, hpre⟩
  · rintro ⟨pre, post, hmap, hd, hpre⟩
    exact ⟨hd, pre, post, hmap, hpre⟩

theorem select_eq_none_iff {map : List Region} {a : Addr} :
    select map a = none ↔ ∀ d ∈ map, ¬ matchesAddr d a := by
  simp only [select, List.find?_eq_none, covers_iff_matchesAddr]

/-- Settles O51: `select` is a search in list order for the first descriptor that covers the address. -/
theorem routerSelectsFirstMatch : Obligations.RouterSelectsFirstMatch :=
  fun _ _ => ⟨fun _ => select_eq_some_iff, select_eq_none_iff⟩

/-! ### Unmapped bytes and mirror images (20_memory R79 (b), (c)) -/

theorem read8_of_unmapped {a : Addr} {s : State} (h : select s.map a = none) : read8 a s = (0xFF, s) := by
  simp only [read8, h]
  rfl

theorem write8_of_unmapped {a : Addr} (v : Byte) {s : State} (h : select s.map a = none) : write8 a v s = s := by
  simp only [write8, h]

/-- The offset in a descriptor depends on the folded address alone (20_memory R54). -/
theorem regionOffset_congr {d : Region} {a a' : Addr} (h : foldAddr d a = foldAddr d a') :
    regionOffset d a = regionOffset d a' := by
  simp only [regionOffset, h]

theorem read8_mirror {a a' : Addr} {d : Region} {s : State} (ha : select s.map a = some d)
    (ha' : select s.map a' = some d) (h : foldAddr d a = foldAddr d a') : read8 a' s = read8 a s := by
  simp only [read8, ha, ha', regionOffset_congr h]

theorem write8_mirror {a a' : Addr} {d : Region} (v : Byte) {s : State} (ha : select s.map a = some d)
    (ha' : select s.map a' = some d) (h : foldAddr d a = foldAddr d a') : write8 a' v s = write8 a v s := by
  simp only [write8, ha, ha', regionOffset_congr h]

/-! ### Read after write (20_memory R79 (a)) -/

/-- The addresses of a wide access: `n` ascending ones, reduced modulo 2^20 (20_memory R58, R59). -/
def ascending (addr n : Nat) : List Addr := (List.range n).map fun k => BitVec.ofNat 20 (addr + k)

theorem ascending_succ (addr n : Nat) :
    ascending addr (n + 1) = BitVec.ofNat 20 addr :: ascending (addr + 1) n := by
  simp [ascending, List.range_succ_eq_map, Nat.add_comm, Nat.add_left_comm]

/-- `onRam` of a first address and the rest: the first is RAM, and none of the rest selects its cell. -/
theorem onRam_cons {a : Addr} {as : List Addr} {s : State} : onRam (a :: as) s = true ↔
    (writeCell s.map a).isSome = true ∧ (∀ b ∈ as, writeCell s.map b ≠ writeCell s.map a) ∧ onRam as s = true := by
  simp only [onRam_iff, List.forall_mem_cons, List.map_cons, List.nodup_cons, List.mem_map, not_exists, not_and]
  tauto

/-- Which addresses are RAM, and in which cells, is a matter of MAP alone. -/
theorem onRam_congr {as : List Addr} {s t : State} (h : t.map = s.map) : onRam as t = onRam as s := by
  simp only [onRam, h]

/-- A wide write changes at most the cells its addresses select. -/
theorem stores_memWrite (addr n v : Nat) (s : State) : Stores (ascending addr n) s (memWrite addr n v s) := by
  induction n generalizing addr v s with
  | zero => exact .refl _ s
  | succ n ih =>
    rw [ascending_succ]
    exact (stores_write8 List.mem_cons_self _ s).trans ((ih _ _ _).mono fun _ => List.mem_cons_of_mem _)

/-- The low byte of a number, and the number of the bytes above it, put together. -/
theorem lowByte_add_rest (v n : Nat) :
    (BitVec.ofNat 8 v).toNat + 256 * (v / 256 % 2 ^ (8 * n)) = v % 2 ^ (8 * (n + 1)) := by
  have hpow : 2 ^ (8 * (n + 1)) = 256 * 2 ^ (8 * n) := by ring
  rw [hpow, Nat.mod_mul, BitVec.toNat_ofNat]

/-- The first byte of a wide write to RAM still stands when the bytes above it are written. -/
theorem read8_memWrite_succ {addr n : Nat} (v : Nat) {s : State} (hw : Memory.wf s.mem = true)
    (h : onRam (ascending addr (n + 1)) s = true) :
    read8 (BitVec.ofNat 20 addr) (memWrite addr (n + 1) v s) =
      (BitVec.ofNat 8 v, memWrite addr (n + 1) v s) := by
  rw [ascending_succ, onRam_cons] at h
  obtain ⟨hram, hne, -⟩ := h
  obtain ⟨k, hk⟩ := Option.isSome_iff_exists.mp hram
  have hdev : isDevice (memWrite addr (n + 1) v s).map (BitVec.ofNat 20 addr) = false := by
    rw [memWrite_map]
    exact not_isDevice_of_writeCell hk
  have hkept := (stores_memWrite (addr + 1) n (v / 256) (write8 (BitVec.ofNat 20 addr) (BitVec.ofNat 8 v) s)).peek8
    (x := BitVec.ofNat 20 addr) fun a ha => .inr (writeCell_ne_readCell (by simpa using hram) (by simpa using hne a ha))
  rw [read8_of_not_isDevice hdev, memWrite, hkept, peek8_write8 _ hw hram]

/-- What is written to distinct RAM bytes is read back modulo the width. -/
theorem memRead_memWrite {addr n : Nat} (v : Nat) {s : State} (hw : Memory.wf s.mem = true)
    (h : onRam (ascending addr n) s = true) : (memRead addr n (memWrite addr n v s)).1 = v % 2 ^ (8 * n) := by
  induction n generalizing addr v s with
  | zero => simp [memRead, Nat.mod_one]
  | succ n ih =>
    have hfirst := read8_memWrite_succ v hw h
    rw [ascending_succ, onRam_cons] at h
    obtain ⟨-, -, hrest⟩ := h
    have hread := ih (v / 256) (write8_mem_wf (BitVec.ofNat 20 addr) (BitVec.ofNat 8 v) hw)
      ((onRam_congr (write8_map _ _ s)).trans hrest)
    rw [memRead, hfirst]
    simp only [memWrite, hread, lowByte_add_rest]

/-- Settles O53: a wide read after the wide write by induction on the width, mirror images by the folded address, unmapped
bytes by the Router's default. -/
theorem routerLaws : Obligations.RouterLaws :=
  ⟨fun _ _ _ v => memRead_memWrite v,
    fun _ _ _ _ v ha ha' h => ⟨read8_mirror ha ha' h, write8_mirror v ha ha' h⟩,
    fun _ _ v h => ⟨read8_of_unmapped h, write8_of_unmapped v h⟩⟩

end Sys2Proof.Proofs
end

section
/-! LAHF, SAHF, CBW and CWD (40_data_transfer R156 to R159): the two transfers between AH and FLAGS, and the two sign
extensions of the accumulator. -/

namespace Sys2Proof.Proofs

open Sys2Proof Sys2Proof.Machine Sys2Proof.Laws

/-! ### SAHF keeps the rest of FLAGS -/

/-- SAHF forces bits 1, 3 and 5, so that they are kept is the invariant of 10_state R27; the high byte it does not touch. -/
theorem keepsAllBut_sahfFlags (ah : Byte) {f : Word} (h : FlagsFixed f) :
    keepsAllBut [.SF, .ZF, .AF, .PF, .CF] f (sahfFlags ah f) := by
  obtain ⟨h1, h3, h5, -⟩ := (flagsFixed_iff f).mp h
  intro k hk hother
  simp only [List.forall_mem_cons, flagBit] at hother
  obtain ⟨h7, h6, h4, h2, h0, -⟩ := hother
  rw [sahfFlags_getLsbD ah f k hk, if_neg (by omega)]
  by_cases hlow : k < 8
  · rw [if_pos hlow]
    obtain rfl | rfl | rfl : k = 1 ∨ k = 3 ∨ k = 5 := by omega
    · exact h1.symm
    · exact h3.symm
    · exact h5.symm
  · rw [if_neg hlow]

/-! ### Sign extension on numbers -/

/-- The byte extended to a word keeps its signed value. -/
theorem sext16_toInt (b : Byte) : (sext16 b).toInt = b.toInt :=
  BitVec.toInt_signExtend_of_le (by decide)

/-- The word CWD puts into DX: sixteen copies of the sign of AX (40_data_transfer R159). -/
def signWord (v : Word) : Word := if v.msb then 0xFFFF#16 else 0x0000#16

/-- DX:AX after CWD is AX extended to 32 bits. -/
theorem signWord_append (v : Word) : signWord v ++ v = v.signExtend 32 := by
  rw [BitVec.signExtend_eq_append_of_le (by decide : 16 ≤ 32), signWord]
  cases v.msb <;> rfl

theorem signWord_append_toInt (v : Word) : (signWord v ++ v).toInt = v.toInt := by
  rw [signWord_append]
  exact BitVec.toInt_signExtend_of_le (by decide)

/-! ### The four instructions -/

theorem exec_lahf (s : State) : exec .lahf s = .next (setReg8 .ah (loByte s.flags) s) := rfl

theorem exec_sahf (s : State) : exec .sahf s = .next (setFlags (sahfFlags (s.reg8 .ah) s.flags) s) := rfl

theorem exec_cbw (s : State) : exec .cbw s = .next (setReg16 .ax (sext16 (s.reg8 .al)) s) := rfl

theorem exec_cwd (s : State) : exec .cwd s = .next (setReg16 .dx (signWord s.regs.ax) s) := rfl

theorem lahf_result (s : State) :
    ∃ t, exec .lahf s = .next t ∧ (t.reg8 .ah).toNat = s.flags.toNat % 256 ∧ t = setReg8 .ah (t.reg8 .ah) s := by
  refine ⟨_, exec_lahf s, ?_, ?_⟩
  · rw [reg8_setReg8_self, loByte_toNat]
  · rw [reg8_setReg8_self]

theorem sahf_result (s : State) :
    ∃ g, exec .sahf s = .next (setFlags g s) ∧ getFlag .SF g = (s.reg8 .ah).getLsbD 7 ∧
      getFlag .ZF g = (s.reg8 .ah).getLsbD 6 ∧ getFlag .AF g = (s.reg8 .ah).getLsbD 4 ∧
      getFlag .PF g = (s.reg8 .ah).getLsbD 2 ∧ getFlag .CF g = (s.reg8 .ah).getLsbD 0 ∧
      (FlagsFixed s.flags → keepsAllBut [.SF, .ZF, .AF, .PF, .CF] s.flags g) :=
  ⟨_, exec_sahf s, getFlag_sahfFlags .SF _ _, getFlag_sahfFlags .ZF _ _, getFlag_sahfFlags .AF _ _,
    getFlag_sahfFlags .PF _ _, getFlag_sahfFlags .CF _ _, keepsAllBut_sahfFlags _⟩

theorem cbw_result (s : State) :
    ∃ t, exec .cbw s = .next t ∧ t.regs.ax.toInt = (s.reg8 .al).toInt ∧ t = setReg16 .ax t.regs.ax s :=
  ⟨_, exec_cbw s, sext16_toInt (s.reg8 .al), rfl⟩

theorem cwd_result (s : State) :
    ∃ t, exec .cwd s = .next t ∧ (t.regs.dx ++ t.regs.ax).toInt = s.regs.ax.toInt ∧
      t = setReg16 .dx t.regs.dx s :=
  ⟨_, exec_cwd s, signWord_append_toInt s.regs.ax, rfl⟩

/-- Settles O27: one lemma for each of the four instructions; each is one byte long, and its decoding evaluates. -/
theorem accumulatorTransfers : Obligations.AccumulatorTransfers :=
  fun s => ⟨lahf_result s, sahf_result s, cbw_result s, cwd_result s, rfl, rfl, rfl, rfl⟩

end Sys2Proof.Proofs
end

section
/-! Jumps on a condition and on CX, and the return from a trap (45_control_transfer R260 to R265 and R282). The displacement
is added on numbers, and the sixteen conditional jumps are one statement over their conditions. -/

namespace Sys2Proof.Proofs

open Sys2Proof Sys2Proof.Machine Sys2Proof.Laws

/-! ### The relative jump -/

/-- The target of a short jump, as an integer reduced modulo 2^16 (45_control_transfer R260). -/
def shortTarget (pc : Word) (rel : Byte) : Word := BitVec.ofInt 16 (pc.toNat + rel.toInt)

/-- The model adds the sign-extended displacement modulo 2^16; that is the sum on integers, reduced. -/
theorem add_sext16 (pc : Word) (rel : Byte) : pc + sext16 rel = shortTarget pc rel := by
  rw [shortTarget, BitVec.ofInt_add, ← sext16_toInt, BitVec.ofInt_toInt, BitVec.ofInt_natCast, BitVec.ofNat_toNat,
    BitVec.setWidth_eq]

/-- A jump on a condition changes pc alone, and only if the condition holds. -/
theorem jumpIf_eq {taken : Bool} {p : Prop} [Decidable p] (h : taken = true ↔ p) (rel : Byte) (s : State) :
    jumpIf taken (sext16 rel) s = { s with pc := if p then shortTarget s.pc rel else s.pc } := by
  by_cases hp : p
  · rw [if_pos hp, jumpIf, if_pos (h.mpr hp), jumpRel, add_sext16]
    rfl
  · rw [if_neg hp, jumpIf, if_neg (mt h.mp hp)]

/-! ### The sixteen conditional jumps (45_control_transfer R261) -/

/-- The opcode byte of the jump on a condition. -/
def jumpOpcode : Cond → Byte
  | .o => 0x70 | .no => 0x71 | .b => 0x72 | .ae => 0x73 | .e => 0x74 | .ne => 0x75 | .be => 0x76 | .a => 0x77
  | .s => 0x78 | .ns => 0x79 | .p => 0x7A | .np => 0x7B | .l => 0x7C | .ge => 0x7D | .le => 0x7E | .g => 0x7F

/-- The jump on a condition. -/
def jumpOn : Cond → Byte → Instr
  | .o => .jo | .no => .jno | .b => .jb | .ae => .jae | .e => .je | .ne => .jne | .be => .jbe | .a => .ja
  | .s => .js | .ns => .jns | .p => .jp | .np => .jnp | .l => .jl | .ge => .jge | .le => .jle | .g => .jg

/-- What a condition says of FLAGS. -/
def CondMeans (c : Cond) (f : Word) : Prop :=
  match c with
  | .o => getFlag .OF f = true
  | .no => getFlag .OF f = false
  | .b => getFlag .CF f = true
  | .ae => getFlag .CF f = false
  | .e => getFlag .ZF f = true
  | .ne => getFlag .ZF f = false
  | .be => getFlag .CF f = true ∨ getFlag .ZF f = true
  | .a => getFlag .CF f = false ∧ getFlag .ZF f = false
  | .s => getFlag .SF f = true
  | .ns => getFlag .SF f = false
  | .p => getFlag .PF f = true
  | .np => getFlag .PF f = false
  | .l => getFlag .SF f ≠ getFlag .OF f
  | .ge => getFlag .SF f = getFlag .OF f
  | .le => getFlag .ZF f = true ∨ getFlag .SF f ≠ getFlag .OF f
  | .g => getFlag .ZF f = false ∧ getFlag .SF f = getFlag .OF f

theorem condHolds_iff (c : Cond) (f : Word) : condHolds c f = true ↔ CondMeans c f := by
  cases c <;> simp [condHolds, CondMeans]

theorem decodeItem_jumpOn (c : Cond) (rel : Byte) : decodeItem [jumpOpcode c, rel] = .got (jumpOn c rel) [] := by
  cases c <;> rfl

theorem exec_jumpOn (c : Cond) (rel : Byte) (s : State) :
    exec (jumpOn c rel) s = .next (jumpIf (condHolds c s.flags) (sext16 rel) s) := by
  cases c <;> rfl

theorem exec_jumpOn_taken {c : Cond} {s : State} (h : CondMeans c s.flags) (rel : Byte) :
    exec (jumpOn c rel) s = .next { s with pc := shortTarget s.pc rel } := by
  rw [exec_jumpOn, jumpIf, if_pos ((condHolds_iff c s.flags).mpr h), jumpRel, add_sext16]
  rfl

theorem exec_jumpOn_skipped {c : Cond} {s : State} (h : ¬ CondMeans c s.flags) (rel : Byte) :
    exec (jumpOn c rel) s = .next s := by
  rw [exec_jumpOn, jumpIf, if_neg (mt (condHolds_iff c s.flags).mp h)]

/-- Encoding, condition and target of one conditional jump. -/
theorem jumpOn_result (c : Cond) (s : State) (rel : Byte) :
    decodeItem [jumpOpcode c, rel] = .got (jumpOn c rel) [] ∧
    (CondMeans c s.flags → exec (jumpOn c rel) s = .next { s with pc := shortTarget s.pc rel }) ∧
    (¬ CondMeans c s.flags → exec (jumpOn c rel) s = .next s) :=
  ⟨decodeItem_jumpOn c rel, fun h => exec_jumpOn_taken h rel, fun h => exec_jumpOn_skipped h rel⟩

/-- Settles O32: one statement over the conditions, read off at each of the sixteen. -/
theorem conditionalJumps : Obligations.ConditionalJumps :=
  ⟨jumpOn_result .o, jumpOn_result .no, jumpOn_result .b, jumpOn_result .ae, jumpOn_result .e, jumpOn_result .ne,
    jumpOn_result .be, jumpOn_result .a, jumpOn_result .s, jumpOn_result .ns, jumpOn_result .p, jumpOn_result .np,
    jumpOn_result .l, jumpOn_result .ge, jumpOn_result .le, jumpOn_result .g⟩

/-! ### LOOP, LOOPE, LOOPNE and JCXZ (45_control_transfer R262 to R265) -/

theorem exec_loop (rel : Byte) (s : State) :
    exec (.loop rel) s = .next (jumpIf (s.regs.cx - 1 != 0) (sext16 rel) (decCx s)) := rfl

theorem exec_loope (rel : Byte) (s : State) :
    exec (.loope rel) s = .next (jumpIf (s.regs.cx - 1 != 0 && getFlag .ZF s.flags) (sext16 rel) (decCx s)) := rfl

theorem exec_loopne (rel : Byte) (s : State) :
    exec (.loopne rel) s = .next (jumpIf (s.regs.cx - 1 != 0 && !getFlag .ZF s.flags) (sext16 rel) (decCx s)) := rfl

theorem exec_jcxz (rel : Byte) (s : State) : exec (.jcxz rel) s = .next (jumpIf (s.regs.cx == 0) (sext16 rel) s) := rfl

/-- The model tests CX after the decrement: it is not 0 just when CX was not 1. -/
theorem sub_one_bne_zero (v : Word) : (v - 1 != 0) = true ↔ v ≠ 1 := by
  rw [bne_iff_ne, sub_ne_zero]

/-- A loop instruction: CX is 1 less, and pc moves if the condition holds; nothing else changes. -/
theorem jumpIf_decCx {taken : Bool} {p : Prop} [Decidable p] (h : taken = true ↔ p) (rel : Byte) (s : State) :
    jumpIf taken (sext16 rel) (decCx s) =
      { s with regs := { s.regs with cx := s.regs.cx - 1 }, pc := if p then shortTarget s.pc rel else s.pc } := by
  rw [jumpIf_eq h]
  rfl

/-- Settles O34: each condition of the model is the one on the old CX and ZF; the four encodings evaluate. -/
theorem loopResults : Obligations.LoopResults := by
  intro s rel
  refine ⟨?loop, ?loope, ?loopne, ?jcxz, rfl, rfl, rfl, rfl⟩
  case loop => rw [exec_loop, jumpIf_decCx (sub_one_bne_zero _)]; rfl
  case loope =>
    rw [exec_loope, jumpIf_decCx (p := s.regs.cx ≠ 1 ∧ getFlag .ZF s.flags = true)]
    · rfl
    · rw [Bool.and_eq_true, sub_one_bne_zero]
  case loopne =>
    rw [exec_loopne, jumpIf_decCx (p := s.regs.cx ≠ 1 ∧ getFlag .ZF s.flags = false)]
    · rfl
    · rw [Bool.and_eq_true, sub_one_bne_zero, Bool.not_eq_true']
  case jcxz => rw [exec_jcxz, jumpIf_eq beq_iff_eq]; rfl

/-! ### IRET (45_control_transfer R282) -/

/-- The model's pop is the one of 40_data_transfer R147: the read leaves SP. -/
theorem pop_eq_popped (s : State) : pop s = popped s := by
  rw [pop, segRead16_regs]
  rfl

/-- The three writes of a return, on any state. -/
theorem setFlags_setSreg_setPc (off seg f : Word) (s : State) : setFlags f (setSreg .cs seg (setPc off s)) =
    { s with pc := off, segs := { s.segs with cs := seg }, flags := f } := rfl

/-- The return from a trap: three pops, and the whole write of FLAGS; all else is as the pops leave it. -/
theorem trapReturn_eq (s : State) :
    let off := popped s
    let seg := popped off.2
    let word := popped seg.2
    trapReturn s = { word.2 with pc := off.1, segs := { s.segs with cs := seg.1 }, flags := wholeFlags word.1 } := by
  simp only [trapReturn, setFlags_setSreg_setPc, pop_segs, ← pop_eq_popped]

theorem exec_iret (s : State) : exec .iret s = .next (trapReturn s) := rfl

/-- Settles O40: by the equation of `trapReturn`, and what a whole write of FLAGS takes and forces. -/
theorem interruptReturn : Obligations.InterruptReturn := by
  refine ⟨rfl, fun s => ⟨_, exec_iret s, ?_⟩⟩
  rw [trapReturn_eq]
  exact ⟨rfl, rfl, fun x => getFlag_wholeFlags x _, flagsFixed_wholeFlags _, rfl⟩

end Sys2Proof.Proofs
end

section
/-! CLC, STC, CMC, CLI, STI, CLD, STD and HLT (46_processor_control R300 to R307). The seven flag instructions are one
statement over the flag and the value it takes. -/

namespace Sys2Proof.Proofs

open Sys2Proof Sys2Proof.Machine Sys2Proof.Laws

/-! ### What each instruction is -/

theorem exec_clc (s : State) : exec .clc s = .next (setFlag .CF false s) := rfl

theorem exec_stc (s : State) : exec .stc s = .next (setFlag .CF true s) := rfl

theorem exec_cmc (s : State) : exec .cmc s = .next (setFlag .CF (!getFlag .CF s.flags) s) := rfl

theorem exec_cli (s : State) : exec .cli s = .next (setFlag .IF false s) := rfl

theorem exec_sti (s : State) : exec .sti s = .next (setFlag .IF true s) := rfl

theorem exec_cld (s : State) : exec .cld s = .next (setFlag .DF false s) := rfl

theorem exec_std (s : State) : exec .std s = .next (setFlag .DF true s) := rfl

theorem exec_hlt (s : State) : exec .hlt s = .next { s with halted := true } := rfl

/-! ### The write of one flag -/

theorem getFlag_putFlag_self (x : Flag) (b : Bool) (f : Word) : getFlag x (putFlag x b f) = b := by
  rw [getFlag_putFlag, if_pos rfl]

theorem keepsAllBut_putFlag_self (x : Flag) (b : Bool) (f : Word) : keepsAllBut [x] f (putFlag x b f) :=
  keepsAllBut_putFlag (List.mem_singleton_self x) b (keepsAllBut_refl [x] f)

/-- An instruction that is the write of one flag: FLAGS alone changes, and in it the one bit. -/
theorem flagWrite_result {i : Instr} {x : Flag} {b : Bool} {s : State} (h : exec i s = .next (setFlag x b s)) :
    ∃ g, exec i s = .next { s with flags := g } ∧ getFlag x g = b ∧ keepsAllBut [x] s.flags g :=
  ⟨putFlag x b s.flags, h, getFlag_putFlag_self x b s.flags, keepsAllBut_putFlag_self x b s.flags⟩

/-- Settles O42: the seven flag instructions by `flagWrite_result`, HLT by its equation; the eight one-byte encodings
evaluate. -/
theorem flagControl : Obligations.FlagControl :=
  fun s => ⟨flagWrite_result (exec_clc s), flagWrite_result (exec_stc s), flagWrite_result (exec_cmc s),
    flagWrite_result (exec_cli s), flagWrite_result (exec_sti s), flagWrite_result (exec_cld s),
    flagWrite_result (exec_std s), exec_hlt s, rfl, rfl, rfl, rfl, rfl, rfl, rfl, rfl⟩

end Sys2Proof.Proofs
end

section
/-! From an item to its bytes and back (30_encoding R90 to R105): `Reads` says which shape of bytes the opcode map reads as
which item; the encoder writes such a shape, and the decoder reads it back, with prefixes before it too. -/

namespace Sys2Proof.Proofs

open Sys2Proof Sys2Proof.Machine Sys2Proof.Laws

/-! ### The shapes -/

/-- The opcode map reads these bytes as this item: one shape for each form of the map (30_encoding R104, R108). -/
inductive Reads : Instr → List Byte → Prop
  | op {b : Byte} {i : Instr} (hb : opcodeForm b = .op i) : Reads i [b]
  | ib {b : Byte} {f : Byte → Instr} (hb : opcodeForm b = .ib f) (v : Byte) : Reads (f v) [b, v]
  | iw {b : Byte} {f : Word → Instr} (hb : opcodeForm b = .iw f) (v : Word) : Reads (f v) (b :: wordBytes v)
  | ptr {b : Byte} {f : Word → Word → Instr} (hb : opcodeForm b = .ptr f) (u v : Word) :
      Reads (f u v) (b :: (wordBytes u ++ wordBytes v))
  | eb {b : Byte} {g : BitVec 3 → Bool → ModForm} {reg : BitVec 3} {f : Rm8 → Instr} {rm : Rm8}
      (hb : opcodeForm b = .modrm g) (hg : ∀ isReg, g reg isReg = .eb f) (hrm : rm.wf = true) :
      Reads (f rm) (b :: encodeRm8 reg rm)
  | ew {b : Byte} {g : BitVec 3 → Bool → ModForm} {reg : BitVec 3} {f : Rm16 → Instr} {rm : Rm16}
      (hb : opcodeForm b = .modrm g) (hg : ∀ isReg, g reg isReg = .ew f) (hrm : rm.wf = true) :
      Reads (f rm) (b :: encodeRm16 reg rm)
  | m {b : Byte} {g : BitVec 3 → Bool → ModForm} {reg : BitVec 3} {f : MemRef → Instr} {m : MemRef}
      (hb : opcodeForm b = .modrm g) (hg : g reg false = .m f) (hm : m.wf = true) : Reads (f m) (b :: encodeMem reg m)
  | ebIb {b : Byte} {g : BitVec 3 → Bool → ModForm} {reg : BitVec 3} {f : Rm8 → Byte → Instr} {rm : Rm8}
      (hb : opcodeForm b = .modrm g) (hg : ∀ isReg, g reg isReg = .ebIb f) (hrm : rm.wf = true) (v : Byte) :
      Reads (f rm v) (b :: (encodeRm8 reg rm ++ [v]))
  | ewIb {b : Byte} {g : BitVec 3 → Bool → ModForm} {reg : BitVec 3} {f : Rm16 → Byte → Instr} {rm : Rm16}
      (hb : opcodeForm b = .modrm g) (hg : ∀ isReg, g reg isReg = .ewIb f) (hrm : rm.wf = true) (v : Byte) :
      Reads (f rm v) (b :: (encodeRm16 reg rm ++ [v]))
  | ewIw {b : Byte} {g : BitVec 3 → Bool → ModForm} {reg : BitVec 3} {f : Rm16 → Word → Instr} {rm : Rm16}
      (hb : opcodeForm b = .modrm g) (hg : ∀ isReg, g reg isReg = .ewIw f) (hrm : rm.wf = true) (v : Word) :
      Reads (f rm v) (b :: (encodeRm16 reg rm ++ wordBytes v))

/-- The `reg` field of the ModRM byte is an 8-bit register, as second or as first operand (30_encoding R99). -/
theorem Reads.ebGb {b : Byte} {f : Rm8 → Reg8 → Instr} {rm : Rm8}
    (hb : opcodeForm b = .modrm fun reg _ => .eb fun rm => f rm (Reg8.ofNum reg)) (hrm : rm.wf = true) (reg : Reg8) :
    Reads (f rm reg) (b :: encodeRm8 reg.num rm) :=
  .eb (f := fun rm => f rm reg) hb (by simp) hrm

theorem Reads.gbEb {b : Byte} {f : Reg8 → Rm8 → Instr} {rm : Rm8}
    (hb : opcodeForm b = .modrm fun reg _ => .eb (f (Reg8.ofNum reg))) (hrm : rm.wf = true) (reg : Reg8) :
    Reads (f reg rm) (b :: encodeRm8 reg.num rm) :=
  .eb hb (by simp) hrm

/-- The same of a 16-bit register. -/
theorem Reads.ewGw {b : Byte} {f : Rm16 → Reg16 → Instr} {rm : Rm16}
    (hb : opcodeForm b = .modrm fun reg _ => .ew fun rm => f rm (Reg16.ofNum reg)) (hrm : rm.wf = true) (reg : Reg16) :
    Reads (f rm reg) (b :: encodeRm16 reg.num rm) :=
  .ew (f := fun rm => f rm reg) hb (by simp) hrm

theorem Reads.gwEw {b : Byte} {f : Reg16 → Rm16 → Instr} {rm : Rm16}
    (hb : opcodeForm b = .modrm fun reg _ => .ew (f (Reg16.ofNum reg))) (hrm : rm.wf = true) (reg : Reg16) :
    Reads (f reg rm) (b :: encodeRm16 reg.num rm) :=
  .ew hb (by simp) hrm

/-- LEA, LDS and LES: a register and a memory operand (30_encoding R106: `mod = 3` is illegal). -/
theorem Reads.mReg {b : Byte} {f : Reg16 → MemRef → Instr} {m : MemRef}
    (hb : opcodeForm b = .modrm fun reg isReg => if isReg then .illegal else .m (f (Reg16.ofNum reg)))
    (hm : m.wf = true) (reg : Reg16) : Reads (f reg m) (b :: encodeMem reg.num m) :=
  .m hb (by simp) hm

/-- The encoder writes every well-formed item in a shape that the opcode map reads as that item. -/
theorem reads_encode {i : Instr} (h : i.wf = true) : Reads i (encode i) := by
  cases i with
  | addEbGb rm reg | orEbGb rm reg | adcEbGb rm reg | sbbEbGb rm reg | andEbGb rm reg | subEbGb rm reg
  | xorEbGb rm reg | cmpEbGb rm reg | testEbGb rm reg | xchgEbGb rm reg | movEbGb rm reg =>
    exact .ebGb rfl h reg
  | addEwGw rm reg | orEwGw rm reg | adcEwGw rm reg | sbbEwGw rm reg | andEwGw rm reg | subEwGw rm reg
  | xorEwGw rm reg | cmpEwGw rm reg | testEwGw rm reg | xchgEwGw rm reg | movEwGw rm reg =>
    exact .ewGw rfl h reg
  | addGbEb reg rm | orGbEb reg rm | adcGbEb reg rm | sbbGbEb reg rm | andGbEb reg rm | subGbEb reg rm
  | xorGbEb reg rm | cmpGbEb reg rm | movGbEb reg rm =>
    exact .gbEb rfl h reg
  | addGwEw reg rm | orGwEw reg rm | adcGwEw reg rm | sbbGwEw reg rm | andGwEw reg rm | subGwEw reg rm
  | xorGwEw reg rm | cmpGwEw reg rm | movGwEw reg rm =>
    exact .gwEw rfl h reg
  | addALIb imm | orALIb imm | adcALIb imm | sbbALIb imm | andALIb imm | subALIb imm | xorALIb imm
  | cmpALIb imm | testALIb imm =>
    exact .ib rfl imm
  | addAXIw imm | orAXIw imm | adcAXIw imm | sbbAXIw imm | andAXIw imm | subAXIw imm | xorAXIw imm
  | cmpAXIw imm | testAXIw imm =>
    exact .iw rfl imm
  | pushES | pushCS | pushSS | pushDS | popES | popSS | popDS | nop | cbw | cwd | pushf | popf | sahf | lahf
  | movsb | movsw | cmpsb | cmpsw | stosb | stosw | lodsb | lodsw | scasb | scasw | ret | retf | int3 | into
  | iret | xlat | hlt | cmc | clc | stc | cli | sti | cld | std | segES | segCS | segSS | segDS | lock | repne
  | rep =>
    exact .op rfl
  | incR16 reg | decR16 reg | pushR16 reg | popR16 reg =>
    cases reg <;> exact .op rfl
  | jo rel | jno rel | jb rel | jae rel | je rel | jne rel | jbe rel | ja rel | js rel | jns rel | jp rel
  | jnp rel | jl rel | jge rel | jle rel | jg rel | loopne rel | loope rel | loop rel | jcxz rel | jmpRel8 rel =>
    exact .ib rfl rel
  | addEbIb rm imm | orEbIb rm imm | adcEbIb rm imm | sbbEbIb rm imm | andEbIb rm imm | subEbIb rm imm
  | xorEbIb rm imm | cmpEbIb rm imm | movEbIb rm imm | testEbIb rm imm =>
    exact .ebIb (rm := rm) rfl (fun _ => rfl) h imm
  | addEwIw rm imm | orEwIw rm imm | adcEwIw rm imm | sbbEwIw rm imm | andEwIw rm imm | subEwIw rm imm
  | xorEwIw rm imm | cmpEwIw rm imm | movEwIw rm imm | testEwIw rm imm =>
    exact .ewIw (rm := rm) rfl (fun _ => rfl) h imm
  | addEwIbs rm imm | orEwIbs rm imm | adcEwIbs rm imm | sbbEwIbs rm imm | andEwIbs rm imm | subEwIbs rm imm
  | xorEwIbs rm imm | cmpEwIbs rm imm =>
    exact .ewIb (rm := rm) rfl (fun _ => rfl) h imm
  | movEwSw rm sreg =>
    exact .ew (f := fun rm => .movEwSw rm sreg) rfl (fun _ => by simp [movFromSreg]) h
  | lea reg mem | les reg mem | lds reg mem =>
    exact .mReg rfl h reg
  | movESEw rm | movSSEw rm | movDSEw rm | popEw rm | rolEw1 rm | rorEw1 rm | rclEw1 rm | rcrEw1 rm | shlEw1 rm
  | shrEw1 rm | sarEw1 rm | rolEwCL rm | rorEwCL rm | rclEwCL rm | rcrEwCL rm | shlEwCL rm | shrEwCL rm
  | sarEwCL rm | notEw rm | negEw rm | incEw rm | decEw rm | callEw rm | jmpEw rm | pushEw rm =>
    exact .ew (rm := rm) rfl (fun _ => rfl) h
  | xchgAXR16 reg =>
    cases reg with
    | ax => simp [Instr.wf] at h
    | cx | dx | bx | sp | bp | si | di => exact .op rfl
  | callFar off seg | jmpFar off seg =>
    exact .ptr rfl off seg
  | movALMoffs moffs | movAXMoffs moffs | movMoffsAL moffs | movMoffsAX moffs =>
    exact .iw rfl moffs
  | movR8Ib reg imm =>
    cases reg <;> exact .ib rfl imm
  | movR16Iw reg imm =>
    cases reg <;> exact .iw rfl imm
  | rolEbCnt8 rm cnt | rorEbCnt8 rm cnt | rclEbCnt8 rm cnt | rcrEbCnt8 rm cnt | shlEbCnt8 rm cnt
  | shrEbCnt8 rm cnt | sarEbCnt8 rm cnt =>
    exact .ebIb (rm := rm) rfl (fun _ => rfl) h cnt
  | rolEwCnt8 rm cnt | rorEwCnt8 rm cnt | rclEwCnt8 rm cnt | rcrEwCnt8 rm cnt | shlEwCnt8 rm cnt
  | shrEwCnt8 rm cnt | sarEwCnt8 rm cnt =>
    exact .ewIb (rm := rm) rfl (fun _ => rfl) h cnt
  | rolEb1 rm | rorEb1 rm | rclEb1 rm | rcrEb1 rm | shlEb1 rm | shrEb1 rm | sarEb1 rm | rolEbCL rm | rorEbCL rm
  | rclEbCL rm | rcrEbCL rm | shlEbCL rm | shrEbCL rm | sarEbCL rm | notEb rm | negEb rm | incEb rm | decEb rm =>
    exact .eb (rm := rm) rfl (fun _ => rfl) h
  | retPop cnt | retfPop cnt =>
    exact .iw rfl cnt
  | int vec =>
    exact .ib rfl vec
  | callRel16 rel | jmpRel16 rel =>
    exact .iw rfl rel
  | callFarM mem | jmpFarM mem =>
    exact .m (m := mem) rfl rfl h

/-- An opcode and a ModRM byte read: the entry of the map at the `reg` field decides what follows. -/
theorem decodeItem_modrm {b m : Byte} {g : BitVec 3 → Bool → ModForm} {form : ModForm} (hb : opcodeForm b = .modrm g)
    (hg : g (regField m) (modField m == 3) = form) (rest : List Byte) :
    decodeItem (b :: m :: rest) = decodeMod form m rest := by
  rw [decodeItem_cons, hb, decodeForm_modrm, hg]

/-- Bytes of such a shape are decoded to the item, and what follows them is left over. -/
theorem Reads.decode {i : Instr} {bytes : List Byte} (h : Reads i bytes) (rest : List Byte) :
    decodeItem (bytes ++ rest) = .got i rest := by
  cases h with
  | op hb => simp [decodeForm, hb]
  | ib hb v => simp [decodeForm, hb]
  | iw hb v => simp [decodeForm, hb]
  | ptr hb u v => simp [decodeForm, hb]
  | @eb b g reg f rm hb hg hrm =>
    obtain ⟨m, tail, he, hreg, ht⟩ := takeRm8_encodeRm8 reg hrm rest
    rw [he, List.cons_append, List.cons_append, decodeItem_modrm hb (by rw [hreg, hg]), decodeMod, ht, wrap_got]
  | @ew b g reg f rm hb hg hrm =>
    obtain ⟨m, tail, he, hreg, ht⟩ := takeRm16_encodeRm16 reg hrm rest
    rw [he, List.cons_append, List.cons_append, decodeItem_modrm hb (by rw [hreg, hg]), decodeMod, ht, wrap_got]
  | @m b g reg f mem hb hg hm =>
    obtain ⟨m, tail, he, hmod, hreg, ht⟩ := takeMem_encodeMem reg hm rest
    have hg' : g (regField m) (modField m == 3) = .m f := by rw [hreg, beq_false_of_ne hmod, hg]
    rw [he, List.cons_append, List.cons_append, decodeItem_modrm hb hg', decodeMod, ht, wrap_got]
  | @ebIb b g reg f rm hb hg hrm v =>
    obtain ⟨m, tail, he, hreg, ht⟩ := takeRm8_encodeRm8 reg hrm ([v] ++ rest)
    rw [he, List.cons_append, List.cons_append, List.cons_append, List.append_assoc,
      decodeItem_modrm hb (by rw [hreg, hg]), decodeMod, ht]
    rfl
  | @ewIb b g reg f rm hb hg hrm v =>
    obtain ⟨m, tail, he, hreg, ht⟩ := takeRm16_encodeRm16 reg hrm ([v] ++ rest)
    rw [he, List.cons_append, List.cons_append, List.cons_append, List.append_assoc,
      decodeItem_modrm hb (by rw [hreg, hg]), decodeMod, ht]
    rfl
  | @ewIw b g reg f rm hb hg hrm v =>
    obtain ⟨m, tail, he, hreg, ht⟩ := takeRm16_encodeRm16 reg hrm (wordBytes v ++ rest)
    rw [he, List.cons_append, List.cons_append, List.cons_append, List.append_assoc,
      decodeItem_modrm hb (by rw [hreg, hg]), decodeMod, ht, andThen_got, takeWord_wordBytes, wrap_got]

/-- Settles O6: the encoder writes a shape that the map reads, and every such shape is read back. -/
theorem decodeOfEncode : Obligations.DecodeOfEncode :=
  fun _ rest h => (reads_encode h).decode rest

/-- An item of any shape is one to six bytes long (30_encoding R90). -/
theorem Reads.length {i : Instr} {bytes : List Byte} (h : Reads i bytes) : 1 ≤ bytes.length ∧ bytes.length ≤ 6 := by
  cases h with
  | op | ib | iw | ptr => simp [wordBytes]
  | eb | ebIb =>
    have := encodeRm8_length_le ‹BitVec 3› ‹Rm8›
    simp; omega
  | ew | ewIb =>
    have := encodeRm16_length_le ‹BitVec 3› ‹Rm16›
    simp; omega
  | ewIw =>
    have := encodeRm16_length_le ‹BitVec 3› ‹Rm16›
    simp [wordBytes]; omega
  | m =>
    have := encodeMem_length_le ‹BitVec 3› ‹MemRef›
    simp; omega

/-! ### Prefixes -/

/-- A prefix is one byte, and well formed (30_encoding R92). -/
theorem prefix_encode {i : Instr} (h : i.isPrefix = true) : i.wf = true ∧ (encode i).length = 1 := by
  cases i with
  | segES | segCS | segSS | segDS | lock | repne | rep => exact ⟨rfl, rfl⟩
  | _ => cases h

theorem decodeItem_prefix {i : Instr} (h : i.isPrefix = true) (rest : List Byte) :
    decodeItem (encode i ++ rest) = .got i rest := decodeOfEncode i rest (prefix_encode h).1

/-- A run of prefixes has as many bytes as prefixes. -/
theorem flatMap_encode_length {ps : List Instr} (h : ps.all Instr.isPrefix = true) :
    (ps.flatMap encode).length = ps.length := by
  induction ps with
  | nil => rfl
  | cons p ps ih =>
    rw [List.all_cons, Bool.and_eq_true] at h
    rw [List.flatMap_cons, List.length_append, ih h.2, (prefix_encode h.1).2, List.length_cons, Nat.add_comm]

/-- A run of prefixes within the bound is read, one by one, before what follows it (30_encoding R93, R102). -/
theorem decodeFrom_prefixes (k : Nat) {ps : List Instr} (h : ps.all Instr.isPrefix = true) (seen : List Instr)
    (rest : List Byte) :
    decodeFrom (ps.length + k) seen (ps.flatMap encode ++ rest) = decodeFrom k (seen ++ ps) rest := by
  induction ps generalizing seen with
  | nil => simp
  | cons p ps ih =>
    rw [List.all_cons, Bool.and_eq_true] at h
    have hn : (p :: ps).length + k = (ps.length + k) + 1 := by rw [List.length_cons]; omega
    rw [hn, decodeFrom, List.flatMap_cons, List.append_assoc, decodeItem_prefix h.1]
    simp only [h.1, ↓reduceIte]
    rw [ih h.2, List.append_assoc]
    rfl

/-- An instruction ends the run. -/
theorem decodeFrom_instr (k : Nat) (seen : List Instr) {i : Instr} (hw : i.wf = true) (hp : i.isPrefix = false)
    (rest : List Byte) : decodeFrom k seen (encode i ++ rest) = .got ⟨seen, i⟩ rest := by
  rw [decodeFrom, decodeOfEncode i rest hw]
  simp [hp]

/-- Settles O7: the prefixes are read one by one, then the instruction; each prefix is one byte, an item at most six. -/
theorem decodeOfEncodeWithPrefixes : Obligations.DecodeOfEncodeWithPrefixes := by
  intro d rest hw hp hps hlen
  obtain ⟨k, hk⟩ := Nat.exists_eq_add_of_le hlen
  have hdecode : decodeBytes (encodeDecoded d ++ rest) = .got d rest := by
    rw [decodeBytes, encodeDecoded, List.append_assoc, Config.prefixMax, hk, decodeFrom_prefixes k hps,
      List.nil_append, decodeFrom_instr k _ hw hp]
  obtain ⟨hmin, hmax⟩ := (reads_encode hw).length
  have hsum : (encodeDecoded d).length = d.prefixes.length + (encode d.instr).length := by
    rw [encodeDecoded, List.length_append, flatMap_encode_length hps]
  exact ⟨hdecode, by omega, by omega⟩

end Sys2Proof.Proofs
end

section
/-! From the bytes to the item (30_encoding R90, R103): `FormSound` says what an entry of the opcode map may stand for, and every
entry is sound; so what decodes is an encoding, and ten bytes decide -/

namespace Sys2Proof.Proofs

open Sys2Proof Sys2Proof.Machine Sys2Proof.Laws

/-! ### The entries of the opcode map -/

/-- What an entry of the map for opcode `b` and `reg` field `reg` reads is well formed and encoded as it was read. -/
def ModSound (b : Byte) (reg : BitVec 3) : ModForm → Prop
  | .illegal => True
  | .eb f => ∀ rm : Rm8, rm.wf = true → (f rm).wf = true ∧ encode (f rm) = b :: encodeRm8 reg rm
  | .ew f => ∀ rm : Rm16, rm.wf = true → (f rm).wf = true ∧ encode (f rm) = b :: encodeRm16 reg rm
  | .m f => ∀ m : MemRef, m.wf = true → (f m).wf = true ∧ encode (f m) = b :: encodeMem reg m
  | .ebIb f => ∀ (rm : Rm8) (v : Byte), rm.wf = true →
      (f rm v).wf = true ∧ encode (f rm v) = b :: (encodeRm8 reg rm ++ [v])
  | .ewIb f => ∀ (rm : Rm16) (v : Byte), rm.wf = true →
      (f rm v).wf = true ∧ encode (f rm v) = b :: (encodeRm16 reg rm ++ [v])
  | .ewIw f => ∀ (rm : Rm16) (v : Word), rm.wf = true →
      (f rm v).wf = true ∧ encode (f rm v) = b :: (encodeRm16 reg rm ++ wordBytes v)

/-- The same of an opcode's entry; a memory operand alone is asked for only where `mod` is not 3 (30_encoding R106). -/
def FormSound (b : Byte) : Form → Prop
  | .illegal => True
  | .op i => i.wf = true ∧ encode i = [b]
  | .ib f => ∀ v, (f v).wf = true ∧ encode (f v) = [b, v]
  | .iw f => ∀ v, (f v).wf = true ∧ encode (f v) = b :: wordBytes v
  | .ptr f => ∀ u v, (f u v).wf = true ∧ encode (f u v) = b :: (wordBytes u ++ wordBytes v)
  | .modrm g => ∀ reg isReg, ModSound b reg (g reg isReg) ∧ (isReg = true → ∀ f, g reg isReg ≠ .m f)

/-- An entry whose ModRM `reg` field is a register: as second or as first operand, 8 or 16 bits. -/
theorem formSound_ebGb {b : Byte} {f : Rm8 → Reg8 → Instr}
    (h : ∀ rm reg, rm.wf = true → (f rm reg).wf = true ∧ encode (f rm reg) = b :: encodeRm8 reg.num rm) :
    FormSound b (.modrm fun reg _ => .eb fun rm => f rm (Reg8.ofNum reg)) :=
  fun reg _ => ⟨fun rm hrm => by simpa using h rm (Reg8.ofNum reg) hrm, nofun⟩

theorem formSound_gbEb {b : Byte} {f : Reg8 → Rm8 → Instr}
    (h : ∀ rm reg, rm.wf = true → (f reg rm).wf = true ∧ encode (f reg rm) = b :: encodeRm8 reg.num rm) :
    FormSound b (.modrm fun reg _ => .eb (f (Reg8.ofNum reg))) :=
  formSound_ebGb (f := fun rm reg => f reg rm) h

theorem formSound_ewGw {b : Byte} {f : Rm16 → Reg16 → Instr}
    (h : ∀ rm reg, rm.wf = true → (f rm reg).wf = true ∧ encode (f rm reg) = b :: encodeRm16 reg.num rm) :
    FormSound b (.modrm fun reg _ => .ew fun rm => f rm (Reg16.ofNum reg)) :=
  fun reg _ => ⟨fun rm hrm => by simpa using h rm (Reg16.ofNum reg) hrm, nofun⟩

theorem formSound_gwEw {b : Byte} {f : Reg16 → Rm16 → Instr}
    (h : ∀ rm reg, rm.wf = true → (f reg rm).wf = true ∧ encode (f reg rm) = b :: encodeRm16 reg.num rm) :
    FormSound b (.modrm fun reg _ => .ew (f (Reg16.ofNum reg))) :=
  formSound_ewGw (f := fun rm reg => f reg rm) h

/-- LEA, LDS and LES: no register operand. -/
theorem formSound_mReg {b : Byte} {f : Reg16 → MemRef → Instr}
    (h : ∀ m reg, m.wf = true → (f reg m).wf = true ∧ encode (f reg m) = b :: encodeMem reg.num m) :
    FormSound b (.modrm fun reg isReg => if isReg then .illegal else .m (f (Reg16.ofNum reg))) := by
  intro reg isReg
  cases isReg with
  | false => exact ⟨fun m hm => by simpa using h m (Reg16.ofNum reg) hm, nofun⟩
  | true => exact ⟨trivial, nofun⟩

/-- An entry whose ModRM `reg` field selects the operation: one case for each value of the field (30_encoding R105). -/
theorem formSound_group {b : Byte} {g : BitVec 3 → Bool → ModForm}
    (h : ∀ n < 8, ∀ isReg, ModSound b (BitVec.ofNat 3 n) (g (BitVec.ofNat 3 n) isReg) ∧
      (isReg = true → ∀ f, g (BitVec.ofNat 3 n) isReg ≠ .m f)) : FormSound b (.modrm g) := by
  intro reg isReg
  simpa using h reg.toNat reg.isLt isReg

/-- Every entry of the opcode map is sound. The closers are in the order of the forms: no entry, no operand, a byte or word,
a far pointer, a register and an operand, and the groups of 30_encoding R105. -/
theorem opcodeForm_sound (b : Byte) : FormSound b (opcodeForm b) := by
  obtain ⟨n, rfl⟩ : ∃ n : Fin 256, b = BitVec.ofFin n := ⟨b.toFin, rfl⟩
  fin_cases n
  all_goals first
    | exact trivial
    | exact ⟨rfl, rfl⟩
    | exact fun v => ⟨rfl, rfl⟩
    | exact fun u v => ⟨rfl, rfl⟩
    | exact formSound_ebGb fun rm reg h => ⟨h, rfl⟩
    | exact formSound_gbEb fun rm reg h => ⟨h, rfl⟩
    | exact formSound_ewGw fun rm reg h => ⟨h, rfl⟩
    | exact formSound_gwEw fun rm reg h => ⟨h, rfl⟩
    | exact formSound_mReg fun m reg h => ⟨h, rfl⟩
    | refine formSound_group fun n hn isReg => ?_
      interval_cases n <;> cases isReg <;> first
        | exact ⟨trivial, nofun⟩
        | exact ⟨fun rm h => ⟨h, rfl⟩, nofun⟩
        | exact ⟨fun rm v h => ⟨h, rfl⟩, nofun⟩

theorem wrap_eq_got {α β : Type} {p : Parse α} {f : α → β} {b : β} {rest : List Byte} (h : p.wrap f = .got b rest) :
    ∃ a, p = .got a rest ∧ f a = b := by
  obtain ⟨a, mid, hp, hf⟩ := andThen_eq_got h
  cases hf
  exact ⟨a, hp, rfl⟩

theorem takeByte_eq_got {bytes rest : List Byte} {v : Byte} (h : takeByte bytes = .got v rest) : bytes = v :: rest := by
  cases bytes with
  | nil => cases h
  | cons b tail => cases h; rfl

theorem takeWord_eq_got {bytes rest : List Byte} {v : Word} (h : takeWord bytes = .got v rest) :
    bytes = wordBytes v ++ rest := by
  match bytes with
  | [] => cases h
  | [_] => cases h
  | lo :: hi :: tail =>
    cases h
    simp [wordBytes]

/-- A sound entry reads only encodings of well-formed items. -/
theorem decodeMod_eq_got {b m : Byte} {form : ModForm} {bytes rest : List Byte} {i : Instr}
    (hs : ModSound b (regField m) form) (hm : modField m = 3 → ∀ f, form ≠ .m f)
    (h : decodeMod form m bytes = .got i rest) : i.wf = true ∧ b :: m :: bytes = encode i ++ rest := by
  cases form with
  | illegal => cases h
  | eb f =>
    obtain ⟨rm, ht, rfl⟩ := wrap_eq_got h
    obtain ⟨hw, hb⟩ := takeRm8_eq_got ht
    obtain ⟨hi, he⟩ := hs rm hw
    exact ⟨hi, by rw [he, hb, List.cons_append]⟩
  | ew f =>
    obtain ⟨rm, ht, rfl⟩ := wrap_eq_got h
    obtain ⟨hw, hb⟩ := takeRm16_eq_got ht
    obtain ⟨hi, he⟩ := hs rm hw
    exact ⟨hi, by rw [he, hb, List.cons_append]⟩
  | m f =>
    obtain ⟨mem, ht, rfl⟩ := wrap_eq_got h
    obtain ⟨hw, hb⟩ := takeMem_eq_got (fun e => hm e f rfl) ht
    obtain ⟨hi, he⟩ := hs mem hw
    exact ⟨hi, by rw [he, hb, List.cons_append]⟩
  | ebIb f =>
    obtain ⟨rm, mid, ht, hr⟩ := andThen_eq_got h
    obtain ⟨v, hv, rfl⟩ := wrap_eq_got hr
    obtain ⟨hw, hb⟩ := takeRm8_eq_got ht
    obtain ⟨hi, he⟩ := hs rm v hw
    exact ⟨hi, by rw [he, hb, takeByte_eq_got hv]; simp⟩
  | ewIb f =>
    obtain ⟨rm, mid, ht, hr⟩ := andThen_eq_got h
    obtain ⟨v, hv, rfl⟩ := wrap_eq_got hr
    obtain ⟨hw, hb⟩ := takeRm16_eq_got ht
    obtain ⟨hi, he⟩ := hs rm v hw
    exact ⟨hi, by rw [he, hb, takeByte_eq_got hv]; simp⟩
  | ewIw f =>
    obtain ⟨rm, mid, ht, hr⟩ := andThen_eq_got h
    obtain ⟨v, hv, rfl⟩ := wrap_eq_got hr
    obtain ⟨hw, hb⟩ := takeRm16_eq_got ht
    obtain ⟨hi, he⟩ := hs rm v hw
    exact ⟨hi, by rw [he, hb, takeWord_eq_got hv]; simp⟩

theorem decodeForm_eq_got {b : Byte} {form : Form} {bytes rest : List Byte} {i : Instr} (hs : FormSound b form)
    (h : decodeForm form bytes = .got i rest) : i.wf = true ∧ b :: bytes = encode i ++ rest := by
  cases form with
  | illegal => cases h
  | op j =>
    cases h
    exact ⟨hs.1, by rw [hs.2]; rfl⟩
  | ib f =>
    obtain ⟨v, hv, rfl⟩ := wrap_eq_got h
    obtain ⟨hi, he⟩ := hs v
    exact ⟨hi, by rw [he, takeByte_eq_got hv]; rfl⟩
  | iw f =>
    obtain ⟨v, hv, rfl⟩ := wrap_eq_got h
    obtain ⟨hi, he⟩ := hs v
    exact ⟨hi, by rw [he, takeWord_eq_got hv]; rfl⟩
  | ptr f =>
    obtain ⟨u, mid, hu, hr⟩ := andThen_eq_got h
    obtain ⟨v, hv, rfl⟩ := wrap_eq_got hr
    obtain ⟨hi, he⟩ := hs u v
    exact ⟨hi, by rw [he, takeWord_eq_got hu, takeWord_eq_got hv]; simp⟩
  | modrm g =>
    obtain ⟨m, mid, hm, hr⟩ := andThen_eq_got h
    obtain ⟨hsound, hmem⟩ := hs (regField m) (modField m == 3)
    rw [takeByte_eq_got hm]
    exact decodeMod_eq_got hsound (fun e => hmem (by rw [e]; rfl)) hr

/-- Settles O8: every entry of the opcode map is sound, so what it reads is an encoding. -/
theorem encodeOfDecode : Obligations.EncodeOfDecode := by
  intro i bytes rest h
  cases bytes with
  | nil => cases h
  | cons b tail => exact decodeForm_eq_got (opcodeForm_sound b) h

/-! ### How many bytes decide -/

theorem andThen_eq_more {α β : Type} {p : Parse α} {f : α → List Byte → Parse β} (h : p.andThen f = .more) :
    p = .more ∨ ∃ a mid, p = .got a mid ∧ f a mid = .more := by
  cases p with
  | more => exact .inl rfl
  | illegal => cases h
  | got a mid => exact .inr ⟨a, mid, rfl, h⟩

theorem wrap_eq_more {α β : Type} {p : Parse α} {f : α → β} (h : p.wrap f = .more) : p = .more := by
  rcases andThen_eq_more h with h | ⟨a, mid, -, h⟩
  · exact h
  · cases h

theorem takeByte_eq_more {bytes : List Byte} (h : takeByte bytes = .more) : bytes.length = 0 := by
  cases bytes with
  | nil => rfl
  | cons b tail => cases h

theorem takeWord_eq_more {bytes : List Byte} (h : takeWord bytes = .more) : bytes.length ≤ 1 := by
  match bytes with
  | [] => simp
  | [_] => simp
  | _ :: _ :: _ => cases h

theorem takeMem_eq_more {m : Byte} {bytes : List Byte} (h : takeMem m bytes = .more) : bytes.length ≤ 1 := by
  unfold takeMem at h
  split at h
  · split at h
    · exact takeWord_eq_more (wrap_eq_more h)
    · cases h
  · have := takeByte_eq_more (wrap_eq_more h)
    omega
  · exact takeWord_eq_more (wrap_eq_more h)

theorem takeRm8_eq_more {m : Byte} {bytes : List Byte} (h : takeRm8 m bytes = .more) : bytes.length ≤ 1 := by
  unfold takeRm8 at h
  split at h
  · cases h
  · exact takeMem_eq_more (wrap_eq_more h)

theorem takeRm16_eq_more {m : Byte} {bytes : List Byte} (h : takeRm16 m bytes = .more) : bytes.length ≤ 1 := by
  unfold takeRm16 at h
  split at h
  · cases h
  · exact takeMem_eq_more (wrap_eq_more h)

/-- An operand read takes at most two bytes after the ModRM byte. -/
theorem takeRm8_length {m : Byte} {bytes mid : List Byte} {rm : Rm8} (h : takeRm8 m bytes = .got rm mid) :
    bytes.length ≤ mid.length + 2 := by
  have hb := congrArg List.length (takeRm8_eq_got h).2
  have := encodeRm8_length_le (regField m) rm
  rw [List.length_cons, List.length_append] at hb
  omega

theorem takeRm16_length {m : Byte} {bytes mid : List Byte} {rm : Rm16} (h : takeRm16 m bytes = .got rm mid) :
    bytes.length ≤ mid.length + 2 := by
  have hb := congrArg List.length (takeRm16_eq_got h).2
  have := encodeRm16_length_le (regField m) rm
  rw [List.length_cons, List.length_append] at hb
  omega

theorem decodeMod_eq_more {form : ModForm} {m : Byte} {bytes : List Byte} (h : decodeMod form m bytes = .more) :
    bytes.length ≤ 3 := by
  cases form with
  | illegal => cases h
  | eb f => exact (takeRm8_eq_more (wrap_eq_more h)).trans (by decide)
  | ew f => exact (takeRm16_eq_more (wrap_eq_more h)).trans (by decide)
  | m f => exact (takeMem_eq_more (wrap_eq_more h)).trans (by decide)
  | ebIb f =>
    rcases andThen_eq_more h with h | ⟨rm, mid, hrm, h⟩
    · exact (takeRm8_eq_more h).trans (by decide)
    · have := takeRm8_length hrm
      have := takeByte_eq_more (wrap_eq_more h)
      omega
  | ewIb f =>
    rcases andThen_eq_more h with h | ⟨rm, mid, hrm, h⟩
    · exact (takeRm16_eq_more h).trans (by decide)
    · have := takeRm16_length hrm
      have := takeByte_eq_more (wrap_eq_more h)
      omega
  | ewIw f =>
    rcases andThen_eq_more h with h | ⟨rm, mid, hrm, h⟩
    · exact (takeRm16_eq_more h).trans (by decide)
    · have := takeRm16_length hrm
      have := takeWord_eq_more (wrap_eq_more h)
      omega

/-- Six bytes decide an item (30_encoding R90). -/
theorem decodeItem_eq_more {bytes : List Byte} (h : decodeItem bytes = .more) : bytes.length ≤ 5 := by
  cases bytes with
  | nil => simp
  | cons b tail =>
    rw [decodeItem_cons] at h
    have htail : tail.length ≤ 4 := by
      generalize opcodeForm b = form at h
      cases form with
      | illegal => cases h
      | op j => cases h
      | ib f => exact (takeByte_eq_more (wrap_eq_more h)).le.trans (by decide)
      | iw f => exact (takeWord_eq_more (wrap_eq_more h)).trans (by decide)
      | ptr f =>
        rcases andThen_eq_more h with h | ⟨u, mid, hu, h⟩
        · exact (takeWord_eq_more h).trans (by decide)
        · have hl := congrArg List.length (takeWord_eq_got hu)
          have := takeWord_eq_more (wrap_eq_more h)
          simp [wordBytes] at hl
          omega
      | modrm g =>
        rcases andThen_eq_more h with h | ⟨m, mid, hm, h⟩
        · exact (takeByte_eq_more h).le.trans (by decide)
        · have := decodeMod_eq_more h
          rw [takeByte_eq_got hm, List.length_cons]
          omega
    rw [List.length_cons]
    omega

/-- With `n` more prefixes allowed, `n + 6` bytes decide. -/
theorem decodeFrom_eq_more {n : Nat} {seen : List Instr} {bytes : List Byte} (h : decodeFrom n seen bytes = .more) :
    bytes.length ≤ n + 5 := by
  induction n generalizing seen bytes with
  | zero =>
    unfold decodeFrom at h
    split at h
    · exact (decodeItem_eq_more ‹_›).trans (by omega)
    · cases h
    · split at h <;> cases h
  | succ k ih =>
    unfold decodeFrom at h
    split at h
    · exact (decodeItem_eq_more ‹_›).trans (by omega)
    · cases h
    · next i rest hi =>
      split at h
      · next hp =>
        have hrest := ih h
        obtain ⟨-, hb⟩ := encodeOfDecode i bytes rest hi
        rw [hb, List.length_append, (prefix_encode hp).2]
        omega
      · cases h

/-- What is read: at most `n` more prefixes, then an instruction, each as it is encoded. -/
theorem decodeFrom_eq_got {n : Nat} {seen : List Instr} {bytes rest : List Byte} {d : Decoded}
    (h : decodeFrom n seen bytes = .got d rest) :
    ∃ ps, d.prefixes = seen ++ ps ∧ ps.length ≤ n ∧ ps.all Instr.isPrefix = true ∧ d.instr.wf = true ∧
      d.instr.isPrefix = false ∧ bytes = ps.flatMap encode ++ (encode d.instr ++ rest) := by
  induction n generalizing seen bytes with
  | zero =>
    unfold decodeFrom at h
    split at h
    · cases h
    · cases h
    · next i mid hi =>
      split at h
      · cases h
      · next hp =>
        cases h
        obtain ⟨hw, hb⟩ := encodeOfDecode i bytes rest hi
        exact ⟨[], by simp, by simp, rfl, hw, by simpa using hp, by simpa using hb⟩
  | succ k ih =>
    unfold decodeFrom at h
    split at h
    · cases h
    · cases h
    · next i mid hi =>
      obtain ⟨hw, hb⟩ := encodeOfDecode i bytes mid hi
      split at h
      · next hp =>
        obtain ⟨ps, hd, hl, hps, hdw, hdp, hbytes⟩ := ih h
        exact ⟨i :: ps, by rw [hd]; simp, by simpa using hl, by simp [hp, hps], hdw, hdp,
          by rw [hb, hbytes]; simp⟩
      · next hp =>
        cases h
        exact ⟨[], by simp, by simp, rfl, hw, by simpa using hp, by simpa using hb⟩

/-- Settles O9: with four prefixes allowed, nine bytes at most ask for more; what is read is read as it is encoded. -/
theorem tenBytesDecide : Obligations.TenBytesDecide := by
  intro bytes hlen
  cases hd : decodeBytes bytes with
  | more =>
    have : bytes.length ≤ 4 + 5 := decodeFrom_eq_more hd
    omega
  | illegal => exact .inl rfl
  | got d rest =>
    obtain ⟨ps, hps, hl, -, hw, -, hb⟩ := decodeFrom_eq_got hd
    rw [List.nil_append] at hps
    exact .inr ⟨d, rest, rfl, hw, by rw [hps]; exact hl, by rw [encodeDecoded, hps, List.append_assoc]; exact hb⟩

end Sys2Proof.Proofs
end

section
/-! The illegal encodings (30_encoding R93, R106): an encoding is illegal by its opcode and the fields of its ModRM byte alone -/

namespace Sys2Proof.Proofs

open Sys2Proof Sys2Proof.Machine Sys2Proof.Laws

/-- The entry reads nothing for this `reg` field and this kind of operand. -/
def rejects (reg : BitVec 3) (isReg : Bool) : Form → Bool
  | .illegal => true
  | .modrm g =>
    match g reg isReg with
    | .illegal => true
    | _ => false
  | _ => false

theorem wrap_ne_illegal {α β : Type} {p : Parse α} (h : p ≠ .illegal) (f : α → β) : p.wrap f ≠ .illegal := by
  cases p with
  | more => nofun
  | illegal => exact absurd rfl h
  | got a rest => nofun

theorem andThen_ne_illegal {α β : Type} {p : Parse α} (h : p ≠ .illegal) {f : α → List Byte → Parse β}
    (hf : ∀ a rest, f a rest ≠ .illegal) : p.andThen f ≠ .illegal := by
  cases p with
  | more => nofun
  | illegal => exact absurd rfl h
  | got a rest => exact hf a rest

theorem takeByte_ne_illegal (bytes : List Byte) : takeByte bytes ≠ .illegal := by
  cases bytes <;> nofun

theorem takeWord_ne_illegal (bytes : List Byte) : takeWord bytes ≠ .illegal := by
  match bytes with
  | [] => nofun
  | [_] => nofun
  | _ :: _ :: _ => nofun

theorem takeMem_ne_illegal (m : Byte) (bytes : List Byte) : takeMem m bytes ≠ .illegal := by
  unfold takeMem
  split
  · split
    · exact wrap_ne_illegal (takeWord_ne_illegal bytes) _
    · nofun
  · exact wrap_ne_illegal (takeByte_ne_illegal bytes) _
  · exact wrap_ne_illegal (takeWord_ne_illegal bytes) _

theorem takeRm8_ne_illegal (m : Byte) (bytes : List Byte) : takeRm8 m bytes ≠ .illegal := by
  unfold takeRm8
  split
  · nofun
  · exact wrap_ne_illegal (takeMem_ne_illegal m bytes) _

theorem takeRm16_ne_illegal (m : Byte) (bytes : List Byte) : takeRm16 m bytes ≠ .illegal := by
  unfold takeRm16
  split
  · nofun
  · exact wrap_ne_illegal (takeMem_ne_illegal m bytes) _

/-- An encoding is illegal by its fields alone, not by its operands (30_encoding R106). -/
theorem decodeMod_eq_illegal {form : ModForm} {m : Byte} {bytes : List Byte} :
    decodeMod form m bytes = .illegal ↔ form = .illegal := by
  constructor
  · intro h
    cases form with
    | illegal => rfl
    | eb f => exact absurd h (wrap_ne_illegal (takeRm8_ne_illegal m bytes) f)
    | ew f => exact absurd h (wrap_ne_illegal (takeRm16_ne_illegal m bytes) f)
    | m f => exact absurd h (wrap_ne_illegal (takeMem_ne_illegal m bytes) f)
    | ebIb f =>
      exact absurd h (andThen_ne_illegal (takeRm8_ne_illegal m bytes) fun rm rest =>
        wrap_ne_illegal (takeByte_ne_illegal rest) (f rm))
    | ewIb f =>
      exact absurd h (andThen_ne_illegal (takeRm16_ne_illegal m bytes) fun rm rest =>
        wrap_ne_illegal (takeByte_ne_illegal rest) (f rm))
    | ewIw f =>
      exact absurd h (andThen_ne_illegal (takeRm16_ne_illegal m bytes) fun rm rest =>
        wrap_ne_illegal (takeWord_ne_illegal rest) (f rm))
  · rintro rfl
    rfl

/-- With the byte after the opcode read, an encoding is illegal just when its entry rejects the fields. -/
theorem decodeForm_eq_illegal {form : Form} {m : Byte} {rest : List Byte} :
    decodeForm form (m :: rest) = .illegal ↔ rejects (regField m) (modField m == 3) form = true := by
  cases form with
  | illegal => simp [decodeForm, rejects]
  | op i => simp [decodeForm, rejects]
  | ib f => simp [decodeForm, rejects]
  | iw f => simpa [decodeForm, rejects] using wrap_ne_illegal (takeWord_ne_illegal (m :: rest)) f
  | ptr f =>
    simpa [decodeForm, rejects] using andThen_ne_illegal (takeWord_ne_illegal (m :: rest)) fun u mid =>
      wrap_ne_illegal (takeWord_ne_illegal mid) (f u)
  | modrm g =>
    rw [decodeForm_modrm, decodeMod_eq_illegal, rejects]
    generalize g (regField m) (modField m == 3) = form
    cases form <;> simp

/-- The opcode alone is illegal just when it has no entry. -/
theorem decodeItem_opcode_eq_illegal {b : Byte} (h : decodeItem [b] = .illegal) : opcodeForm b = .illegal := by
  rw [decodeItem_cons] at h
  generalize opcodeForm b = form at h ⊢
  cases form with
  | illegal => rfl
  | op | ib | iw | ptr | modrm => cases h

/-- The map has an entry. -/
def hasEntry : Form → Bool
  | .illegal => false
  | _ => true

theorem eq_illegal_iff {form : Form} : form = .illegal ↔ hasEntry form = false := by
  cases form <;> simp [hasEntry]

/-- The opcodes without an entry are those of the list. -/
theorem opcodeForm_eq_illegal_iff (b : Byte) : opcodeForm b = .illegal ↔ b ∈ illegalOpcodes := by
  rw [eq_illegal_iff]
  revert b
  decide +kernel

/-- The rule of R106 looks at the `reg` field and at whether `mod` is 3. -/
theorem illegalModRM_congr (op : Byte) {m m' : Byte} (hreg : regField m = regField m')
    (hmod : modField m = 3 ↔ modField m' = 3) : illegalModRM op m = illegalModRM op m' := by
  have reg : ∀ b : Byte, b.toNat / 8 % 8 = (regField b).toNat := by decide +kernel
  have mod3 : ∀ b : Byte, 192 ≤ b.toNat ↔ modField b = 3 := by decide +kernel
  simp only [illegalModRM, reg, mod3, hreg, hmod]

/-- The map rejects exactly the fields that the rule names, for every opcode of the map. -/
theorem rejects_opcodeForm (op : Byte) (reg : BitVec 3) (isReg : Bool) (h : op ∉ illegalOpcodes) :
    rejects reg isReg (opcodeForm op) = illegalModRM op (modrmByte (if isReg then 3 else 0) reg 0) := by
  revert op reg isReg
  decide +kernel

theorem rejects_eq_illegalModRM {op : Byte} (h : op ∉ illegalOpcodes) (m : Byte) :
    rejects (regField m) (modField m == 3) (opcodeForm op) = illegalModRM op m := by
  rw [rejects_opcodeForm op _ _ h]
  refine illegalModRM_congr op (by simp) ?_
  by_cases hm : modField m = 3 <;> simp [hm]

/-- Four prefixes are read; a fifth is an illegal opcode, whatever follows (30_encoding R93). -/
theorem decodeBytes_five_prefixes {ps : List Instr} (rest : List Byte) (hps : ps.all Instr.isPrefix = true)
    (hlen : ps.length = 5) :
    decodeBytes (ps.flatMap encode ++ rest) = .illegal ∧ decodeBytes ((ps.take 4).flatMap encode) = .more := by
  obtain ⟨qs, p, rfl⟩ : ∃ qs p, ps = qs ++ [p] := ⟨_, _, (List.dropLast_append_getLast (by rintro rfl; cases hlen)).symm⟩
  rw [List.length_append, List.length_singleton] at hlen
  obtain ⟨hqs, hp⟩ : qs.all Instr.isPrefix = true ∧ p.isPrefix = true := by simpa using hps
  have hfour : ∀ tail, decodeBytes (qs.flatMap encode ++ tail) = decodeFrom 0 qs tail := fun tail => by
    have h := decodeFrom_prefixes 0 hqs [] tail
    rwa [Nat.add_zero, Nat.succ.inj hlen, List.nil_append] at h
  constructor
  · rw [List.flatMap_append, List.append_assoc, hfour, decodeFrom, List.flatMap_singleton, decodeItem_prefix hp]
    simp [hp]
  · rw [List.take_left' (Nat.succ.inj hlen)]
    exact (congrArg decodeBytes (List.append_nil _)).symm.trans (hfour [])

/-- Settles O10: the list by evaluation, the combinations by the fields, the fifth prefix by the bound. -/
theorem illegalEncodings : Obligations.IllegalEncodings := by
  refine ⟨fun op rest h => ?listed, fun op h => ?opcode, fun op m rest h => ?modrm,
    fun ps rest hps hlen => decodeBytes_five_prefixes rest hps hlen⟩
  case listed => rw [decodeItem_cons, (opcodeForm_eq_illegal_iff op).mpr h]; rfl
  case opcode => exact fun he => h ((opcodeForm_eq_illegal_iff op).mp (decodeItem_opcode_eq_illegal he))
  case modrm => rw [decodeItem_cons, decodeForm_eq_illegal, rejects_eq_illegalModRM h]

end Sys2Proof.Proofs
end

section
/-! Every instruction is one of the shared operations. `Action` names them, with what each runs, may write and reads; each
instruction is tied to its action by `action_of`, and the frames are proved of the actions. -/

namespace Sys2Proof.Proofs

open Sys2Proof Sys2Proof.Machine Sys2Proof.Laws

/-- INC, DEC and NEG (41_arithmetic R179 to R183). -/
inductive Unary where
  | inc | dec | neg

/-- Result and flags of the operation. -/
def Unary.apply {w : Nat} : Unary → BitVec w → Word → BitVec w × Word
  | .inc => incOp
  | .dec => decOp
  | .neg => negOp

/-- The flags it writes: INC and DEC keep CF. -/
def Unary.flags : Unary → List Flag
  | .inc | .dec => [.PF, .AF, .ZF, .SF, .OF]
  | .neg => statusFlags

/-- The shared operations that the instructions are, their operands and values already found. -/
inductive Action where
  | alu8 (op : AluOp) (rm : Rm8) (b : Byte)
  | alu16 (op : AluOp) (rm : Rm16) (b : Word)
  | aluReg8 (op : AluOp) (reg : Reg8) (rm : Rm8)
  | aluReg16 (op : AluOp) (reg : Reg16) (rm : Rm16)
  | unary8 (u : Unary) (rm : Rm8)
  | unary16 (u : Unary) (rm : Rm16)
  | test8 (rm : Rm8) (b : Byte)
  | test16 (rm : Rm16) (b : Word)
  | shift8 (op : ShiftOp) (raw : Byte) (rm : Rm8)
  | shift16 (op : ShiftOp) (raw : Byte) (rm : Rm16)
  | not8 (rm : Rm8)
  | not16 (rm : Rm16)
  | xchg8 (rm : Rm8) (reg : Reg8)
  | xchg16 (rm : Rm16) (reg : Reg16)
  | store8 (rm : Rm8) (v : Byte)
  | store16 (rm : Rm16) (v : Word)
  | load8 (reg : Reg8) (rm : Rm8)
  | load16 (reg : Reg16) (rm : Rm16)
  | set8 (reg : Reg8) (v : Byte)
  | set16 (reg : Reg16) (v : Word)
  | xchgAX (reg : Reg16)
  | loadSreg (j : SReg) (rm : Rm16)
  | popSreg (j : SReg)
  | loadFar (j : SReg) (reg : Reg16) (m : MemRef)
  | push (v : Word)
  | pushRm (rm : Rm16)
  | popRm (rm : Rm16)
  | popf
  | sahf
  | putFlag (x : Flag) (b : Bool)
  | jumpIf (taken : Bool) (d : Word)
  | loopIf (taken : Bool) (d : Word)
  | jumpFar (off seg : Word)
  | jumpRm (rm : Rm16)
  | jumpMem (m : MemRef)
  | callRel (d : Word)
  | callRm (rm : Rm16)
  | callFar (off seg : Word)
  | callMem (m : MemRef)
  | ret
  | retPop (cnt : Word)
  | retf
  | retfPop (cnt : Word)
  | trap (n : Byte)
  | iret
  | movs8 | movs16 | cmps8 | cmps16 | stos8 | stos16 | lods8 | lods16 | scas8 | scas16
  | nop
  | hlt
  | setOverride (j : SReg)
  | setRepeat (r : Rep)

/-- The state after the action. -/
def Action.run (s : State) : Action → State
  | .alu8 op rm b => aluPlace8 op (place8 rm s) b s
  | .alu16 op rm b => aluPlace16 op (place16 rm s) b s
  | .aluReg8 op reg rm => Machine.aluReg8 op reg (place8 rm s) s
  | .aluReg16 op reg rm => Machine.aluReg16 op reg (place16 rm s) s
  | .unary8 u rm => unaryPlace8 u.apply (place8 rm s) s
  | .unary16 u rm => unaryPlace16 u.apply (place16 rm s) s
  | .test8 rm b => testPlace8 (place8 rm s) b s
  | .test16 rm b => testPlace16 (place16 rm s) b s
  | .shift8 op raw rm => shiftPlace8 op raw (place8 rm s) s
  | .shift16 op raw rm => shiftPlace16 op raw (place16 rm s) s
  | .not8 rm => notPlace8 (place8 rm s) s
  | .not16 rm => notPlace16 (place16 rm s) s
  | .xchg8 rm reg => xchgPlace8 (place8 rm s) reg s
  | .xchg16 rm reg => xchgPlace16 (place16 rm s) reg s
  | .store8 rm v => writePlace8 (place8 rm s) v s
  | .store16 rm v => writePlace16 (place16 rm s) v s
  | .load8 reg rm => loadReg8 reg (readPlace8 (place8 rm s) s)
  | .load16 reg rm => loadReg16 reg (readPlace16 (place16 rm s) s)
  | .set8 reg v => setReg8 reg v s
  | .set16 reg v => setReg16 reg v s
  | .xchgAX reg => setReg16 reg s.regs.ax (setReg16 .ax (s.reg16 reg) s)
  | .loadSreg j rm => Machine.loadSreg j (readPlace16 (place16 rm s) s)
  | .popSreg j => Machine.loadSreg j (pop s)
  | .loadFar j reg m => Machine.loadFar j reg (readFar m s)
  | .push v => Machine.push v s
  | .pushRm rm => pushPlace16 (place16 rm s) s
  | .popRm rm => popPlace16 (place16 rm s) s
  | .popf => setFlags (wholeFlags (pop s).1) (pop s).2
  | .sahf => setFlags (sahfFlags (s.reg8 .ah) s.flags) s
  | .putFlag x b => setFlag x b s
  | .jumpIf taken d => Machine.jumpIf taken d s
  | .loopIf taken d => Machine.jumpIf taken d (decCx s)
  | .jumpFar off seg => Machine.jumpFar off seg s
  | .jumpRm rm => jumpNear (readPlace16 (place16 rm s) s)
  | .jumpMem m => jumpPointer (readFar m s)
  | .callRel d => jumpRel d (Machine.push s.pc s)
  | .callRm rm => callNear (readPlace16 (place16 rm s) s)
  | .callFar off seg => callFarTo off seg s
  | .callMem m => callPointer (readFar m s)
  | .ret => jumpNear (pop s)
  | .retPop cnt => releaseStack cnt (jumpNear (pop s))
  | .retf => returnFar s
  | .retfPop cnt => releaseStack cnt (returnFar s)
  | .trap n => Machine.trap n s.pc s
  | .iret => trapReturn s
  | .movs8 => repeatPlain (movsOne8 (overridden .ds s) (stringDelta 1 s.flags)) s
  | .movs16 => repeatPlain (movsOne16 (overridden .ds s) (stringDelta 2 s.flags)) s
  | .cmps8 => repeatCompare (cmpsOne8 (overridden .ds s) (stringDelta 1 s.flags)) s
  | .cmps16 => repeatCompare (cmpsOne16 (overridden .ds s) (stringDelta 2 s.flags)) s
  | .stos8 => repeatPlain (stosOne8 (stringDelta 1 s.flags)) s
  | .stos16 => repeatPlain (stosOne16 (stringDelta 2 s.flags)) s
  | .lods8 => repeatPlain (lodsOne8 (overridden .ds s) (stringDelta 1 s.flags)) s
  | .lods16 => repeatPlain (lodsOne16 (overridden .ds s) (stringDelta 2 s.flags)) s
  | .scas8 => repeatCompare (scasOne8 (stringDelta 1 s.flags)) s
  | .scas16 => repeatCompare (scasOne16 (stringDelta 2 s.flags)) s
  | .nop => s
  | .hlt => { s with halted := true }
  | .setOverride j => { s with segov := some j }
  | .setRepeat r => { s with rep := some r }

/-- The flags a shift or rotate writes (43_shift_rotate R222). -/
def shiftWrites (op : ShiftOp) (raw : Byte) : List Flag :=
  if shiftSetsSzp op then shiftedFlags raw else rotateFlags raw

/-- What the action may write. -/
def Action.effects (s : State) : Action → Effects
  | .alu8 op rm _ =>
    if aluWrites op then { regs8 := rmReg8 rm, flags := statusFlags, stores := rmStore8 rm s }
    else { flags := statusFlags }
  | .alu16 op rm _ =>
    if aluWrites op then { regs16 := rmReg16 rm, flags := statusFlags, stores := rmStore16 rm s }
    else { flags := statusFlags }
  | .aluReg8 op reg _ => if aluWrites op then { regs8 := [reg], flags := statusFlags } else { flags := statusFlags }
  | .aluReg16 op reg _ => if aluWrites op then { regs16 := [reg], flags := statusFlags } else { flags := statusFlags }
  | .unary8 u rm => { regs8 := rmReg8 rm, flags := u.flags, stores := rmStore8 rm s }
  | .unary16 u rm => { regs16 := rmReg16 rm, flags := u.flags, stores := rmStore16 rm s }
  | .test8 _ _ | .test16 _ _ => { flags := statusFlags }
  | .shift8 op raw rm =>
    { regs8 := rmReg8 rm, flags := shiftWrites op raw, stores := if shiftCount raw = 0 then [] else rmStore8 rm s }
  | .shift16 op raw rm =>
    { regs16 := rmReg16 rm, flags := shiftWrites op raw, stores := if shiftCount raw = 0 then [] else rmStore16 rm s }
  | .not8 rm | .store8 rm _ => { regs8 := rmReg8 rm, stores := rmStore8 rm s }
  | .not16 rm | .store16 rm _ => { regs16 := rmReg16 rm, stores := rmStore16 rm s }
  | .xchg8 rm reg => { regs8 := reg :: rmReg8 rm, stores := rmStore8 rm s }
  | .xchg16 rm reg => { regs16 := reg :: rmReg16 rm, stores := rmStore16 rm s }
  | .load8 reg _ | .set8 reg _ => { regs8 := [reg] }
  | .load16 reg _ | .set16 reg _ => { regs16 := [reg] }
  | .xchgAX reg => { regs16 := [.ax, reg] }
  | .loadSreg j _ => { sregs := [j], window := true }
  | .popSreg j => { regs16 := [.sp], sregs := [j], window := true }
  | .loadFar j reg _ => { regs16 := [reg], sregs := [j] }
  | .push _ | .pushRm _ => { regs16 := [.sp], stores := segBytes .ss (s.regs.sp - 2) 2 s }
  | .popRm rm => { regs16 := .sp :: rmReg16 rm, stores := rmStore16 rm s }
  | .popf => { regs16 := [.sp], flags := allFlags }
  | .sahf => { flags := [.CF, .PF, .AF, .ZF, .SF] }
  | .putFlag x _ => { flags := [x] }
  | .jumpIf _ _ | .jumpRm _ => { jumps := true }
  | .loopIf _ _ => { regs16 := [.cx], jumps := true }
  | .jumpFar _ _ | .jumpMem _ => { sregs := [.cs], jumps := true }
  | .callRel _ | .callRm _ => { regs16 := [.sp], stores := segBytes .ss (s.regs.sp - 2) 2 s, jumps := true }
  | .callFar _ _ | .callMem _ =>
    { regs16 := [.sp], sregs := [.cs], stores := segBytes .ss (s.regs.sp - 4) 4 s, jumps := true }
  | .ret | .retPop _ => { regs16 := [.sp], jumps := true }
  | .retf | .retfPop _ => { regs16 := [.sp], sregs := [.cs], jumps := true }
  | .trap _ =>
    { regs16 := [.sp], sregs := [.cs], flags := [.IF, .TF], stores := segBytes .ss (s.regs.sp - 6) 6 s, jumps := true }
  | .iret => { regs16 := [.sp], sregs := [.cs], flags := allFlags, jumps := true }
  | .movs8 => { regs16 := .si :: .di :: repCx s, stores := elementBytes 1 s }
  | .movs16 => { regs16 := .si :: .di :: repCx s, stores := elementBytes 2 s }
  | .cmps8 | .cmps16 => { regs16 := .si :: .di :: repCx s, flags := comparedFlags s }
  | .stos8 => { regs16 := .di :: repCx s, stores := elementBytes 1 s }
  | .stos16 => { regs16 := .di :: repCx s, stores := elementBytes 2 s }
  | .lods8 => { regs8 := [.al], regs16 := .si :: repCx s }
  | .lods16 => { regs16 := .ax :: .si :: repCx s }
  | .scas8 | .scas16 => { regs16 := .di :: repCx s, flags := comparedFlags s }
  | .nop | .hlt | .setOverride _ | .setRepeat _ => { }

/-- The addresses the action reads. -/
def Action.loads (s : State) : Action → List Addr
  | .alu8 _ rm _ | .aluReg8 _ _ rm | .unary8 _ rm | .test8 rm _ | .shift8 _ _ rm | .not8 rm | .xchg8 rm _
  | .load8 _ rm => rmStore8 rm s
  | .alu16 _ rm _ | .aluReg16 _ _ rm | .unary16 _ rm | .test16 rm _ | .shift16 _ _ rm | .not16 rm | .xchg16 rm _
  | .load16 _ rm | .loadSreg _ rm | .pushRm rm | .jumpRm rm | .callRm rm => rmStore16 rm s
  | .popSreg _ | .popRm _ | .popf | .ret | .retPop _ => segBytes .ss s.regs.sp 2 s
  | .loadFar _ _ m | .jumpMem m | .callMem m => segBytes (eaSeg m s) (eaOff m s) 4 s
  | .retf | .retfPop _ => segBytes .ss s.regs.sp 4 s
  | .trap n => vectorBytes n
  | .iret => segBytes .ss s.regs.sp 6 s
  | .movs8 | .lods8 => sourceBytes 1 s
  | .movs16 | .lods16 => sourceBytes 2 s
  | .cmps8 => sourceBytes 1 s ++ elementBytes 1 s
  | .cmps16 => sourceBytes 2 s ++ elementBytes 2 s
  | .scas8 => elementBytes 1 s
  | .scas16 => elementBytes 2 s
  | .store8 _ _ | .store16 _ _ | .set8 _ _ | .set16 _ _ | .xchgAX _ | .push _ | .sahf | .putFlag _ _ | .jumpIf _ _
  | .loopIf _ _ | .jumpFar _ _ | .callRel _ | .callFar _ _ | .stos8 | .stos16 | .nop | .hlt | .setOverride _
  | .setRepeat _ => []

/-- The instruction runs as this action, and the model's tables say of it what they say of the action. -/
structure Acts (i : Instr) (s : State) (a : Action) : Prop where
  exec : exec i s = .next (a.run s)
  effects : effects i s = a.effects s
  loads : loads i s = a.loads s
  halts : a = .hlt → i = .hlt
  isPrefix : (∃ j, a = .setOverride j) ∨ (∃ r, a = .setRepeat r) → i.isPrefix = true

/-- An action that neither halts nor records a prefix. -/
theorem Acts.plain {i : Instr} {s : State} {a : Action} (he : Machine.exec i s = .next (a.run s))
    (hf : Machine.effects i s = a.effects s := by rfl) (hl : Machine.loads i s = a.loads s := by rfl) (hh : a ≠ .hlt := by nofun)
    (ho : ∀ j, a ≠ .setOverride j := by nofun) (hr : ∀ r, a ≠ .setRepeat r := by nofun) : Acts i s a :=
  ⟨he, hf, hl, fun e => absurd e hh, fun e => by
    rcases e with ⟨j, e⟩ | ⟨r, e⟩
    · exact absurd e (ho j)
    · exact absurd e (hr r)⟩

section
variable {i : Instr} {s : State}

/-! The two-operand and shift operations, the operation read off what the instruction runs. -/

theorem Acts.alu8 {op : AluOp} {rm : Rm8} {b : Byte} (he : Machine.exec i s = .next (aluPlace8 op (place8 rm s) b s))
    (hf : Machine.effects i s = (Action.alu8 op rm b).effects s := by rfl) (hl : Machine.loads i s = rmStore8 rm s := by rfl) :
    ∃ a, Acts i s a := ⟨.alu8 op rm b, .plain he hf hl⟩

theorem Acts.alu16 {op : AluOp} {rm : Rm16} {b : Word} (he : Machine.exec i s = .next (aluPlace16 op (place16 rm s) b s))
    (hf : Machine.effects i s = (Action.alu16 op rm b).effects s := by rfl) (hl : Machine.loads i s = rmStore16 rm s := by rfl) :
    ∃ a, Acts i s a := ⟨.alu16 op rm b, .plain he hf hl⟩

theorem Acts.aluReg8 {op : AluOp} {reg : Reg8} {rm : Rm8} (he : Machine.exec i s = .next (Machine.aluReg8 op reg (place8 rm s) s))
    (hf : Machine.effects i s = (Action.aluReg8 op reg rm).effects s := by rfl) (hl : Machine.loads i s = rmStore8 rm s := by rfl) :
    ∃ a, Acts i s a := ⟨.aluReg8 op reg rm, .plain he hf hl⟩

theorem Acts.aluReg16 {op : AluOp} {reg : Reg16} {rm : Rm16}
    (he : Machine.exec i s = .next (Machine.aluReg16 op reg (place16 rm s) s))
    (hf : Machine.effects i s = (Action.aluReg16 op reg rm).effects s := by rfl) (hl : Machine.loads i s = rmStore16 rm s := by rfl) :
    ∃ a, Acts i s a := ⟨.aluReg16 op reg rm, .plain he hf hl⟩

theorem Acts.shift8 {op : ShiftOp} {raw : Byte} {rm : Rm8} (he : Machine.exec i s = .next (shiftPlace8 op raw (place8 rm s) s))
    (hf : Machine.effects i s = (Action.shift8 op raw rm).effects s := by rfl) (hl : Machine.loads i s = rmStore8 rm s := by rfl) :
    ∃ a, Acts i s a := ⟨.shift8 op raw rm, .plain he hf hl⟩

theorem Acts.shift16 {op : ShiftOp} {raw : Byte} {rm : Rm16}
    (he : Machine.exec i s = .next (shiftPlace16 op raw (place16 rm s) s))
    (hf : Machine.effects i s = (Action.shift16 op raw rm).effects s := by rfl) (hl : Machine.loads i s = rmStore16 rm s := by rfl) :
    ∃ a, Acts i s a := ⟨.shift16 op raw rm, .plain he hf hl⟩

end

/-- XLAT's offset, as the model adds it (40_data_transfer R145). -/
theorem xlatOffset (s : State) :
    BitVec.ofNat 16 (s.regs.bx.toNat + (s.reg8 .al).toNat) = s.regs.bx + zext16 (s.reg8 .al) := by
  have h : (s.reg8 .al).toNat < 256 := (s.reg8 .al).isLt
  apply BitVec.eq_of_toNat_eq
  simp [zext16]

/-- PUSH of a register in its short form is the one of the long form (40_data_transfer R148, R152). -/
theorem pushR16_eq (reg : Reg16) (s : State) :
    (if reg = .sp then pushSp s else push (s.reg16 reg) s) = pushPlace16 (.reg reg) s := by
  cases reg <;> rfl

/-- Every instruction is one of the actions. -/
theorem action_of (i : Instr) (s : State) : ∃ a, Acts i s a := by
  cases i with
  | addEbGb rm reg | orEbGb rm reg | adcEbGb rm reg | sbbEbGb rm reg | andEbGb rm reg | subEbGb rm reg
  | xorEbGb rm reg | cmpEbGb rm reg => exact Acts.alu8 rfl
  | addEbIb rm imm | orEbIb rm imm | adcEbIb rm imm | sbbEbIb rm imm | andEbIb rm imm | subEbIb rm imm
  | xorEbIb rm imm | cmpEbIb rm imm => exact Acts.alu8 rfl
  | addALIb imm | orALIb imm | adcALIb imm | sbbALIb imm | andALIb imm | subALIb imm | xorALIb imm
  | cmpALIb imm => exact Acts.alu8 (rm := .reg .al) rfl
  | addEwGw rm reg | orEwGw rm reg | adcEwGw rm reg | sbbEwGw rm reg | andEwGw rm reg | subEwGw rm reg
  | xorEwGw rm reg | cmpEwGw rm reg => exact Acts.alu16 rfl
  | addEwIw rm imm | orEwIw rm imm | adcEwIw rm imm | sbbEwIw rm imm | andEwIw rm imm | subEwIw rm imm
  | xorEwIw rm imm | cmpEwIw rm imm => exact Acts.alu16 rfl
  | addEwIbs rm imm | orEwIbs rm imm | adcEwIbs rm imm | sbbEwIbs rm imm | andEwIbs rm imm | subEwIbs rm imm
  | xorEwIbs rm imm | cmpEwIbs rm imm => exact Acts.alu16 rfl
  | addAXIw imm | orAXIw imm | adcAXIw imm | sbbAXIw imm | andAXIw imm | subAXIw imm | xorAXIw imm
  | cmpAXIw imm => exact Acts.alu16 (rm := .reg .ax) rfl
  | addGbEb reg rm | orGbEb reg rm | adcGbEb reg rm | sbbGbEb reg rm | andGbEb reg rm | subGbEb reg rm
  | xorGbEb reg rm | cmpGbEb reg rm => exact Acts.aluReg8 rfl
  | addGwEw reg rm | orGwEw reg rm | adcGwEw reg rm | sbbGwEw reg rm | andGwEw reg rm | subGwEw reg rm
  | xorGwEw reg rm | cmpGwEw reg rm => exact Acts.aluReg16 rfl
  | incEb rm => exact ⟨.unary8 .inc rm, .plain rfl⟩
  | decEb rm => exact ⟨.unary8 .dec rm, .plain rfl⟩
  | negEb rm => exact ⟨.unary8 .neg rm, .plain rfl⟩
  | incEw rm => exact ⟨.unary16 .inc rm, .plain rfl⟩
  | decEw rm => exact ⟨.unary16 .dec rm, .plain rfl⟩
  | negEw rm => exact ⟨.unary16 .neg rm, .plain rfl⟩
  | incR16 reg => exact ⟨.unary16 .inc (.reg reg), .plain rfl⟩
  | decR16 reg => exact ⟨.unary16 .dec (.reg reg), .plain rfl⟩
  | testEbGb rm reg => exact ⟨.test8 rm (s.reg8 reg), .plain rfl⟩
  | testEbIb rm imm => exact ⟨.test8 rm imm, .plain rfl⟩
  | testALIb imm => exact ⟨.test8 (.reg .al) imm, .plain rfl⟩
  | testEwGw rm reg => exact ⟨.test16 rm (s.reg16 reg), .plain rfl⟩
  | testEwIw rm imm => exact ⟨.test16 rm imm, .plain rfl⟩
  | testAXIw imm => exact ⟨.test16 (.reg .ax) imm, .plain rfl⟩
  | rolEb1 rm | rorEb1 rm | rclEb1 rm | rcrEb1 rm | shlEb1 rm | shrEb1 rm | sarEb1 rm =>
    exact Acts.shift8 rfl
  | rolEbCL rm | rorEbCL rm | rclEbCL rm | rcrEbCL rm | shlEbCL rm | shrEbCL rm | sarEbCL rm =>
    exact Acts.shift8 rfl
  | rolEbCnt8 rm cnt | rorEbCnt8 rm cnt | rclEbCnt8 rm cnt | rcrEbCnt8 rm cnt | shlEbCnt8 rm cnt
  | shrEbCnt8 rm cnt | sarEbCnt8 rm cnt => exact Acts.shift8 rfl
  | rolEw1 rm | rorEw1 rm | rclEw1 rm | rcrEw1 rm | shlEw1 rm | shrEw1 rm | sarEw1 rm =>
    exact Acts.shift16 rfl
  | rolEwCL rm | rorEwCL rm | rclEwCL rm | rcrEwCL rm | shlEwCL rm | shrEwCL rm | sarEwCL rm =>
    exact Acts.shift16 rfl
  | rolEwCnt8 rm cnt | rorEwCnt8 rm cnt | rclEwCnt8 rm cnt | rcrEwCnt8 rm cnt | shlEwCnt8 rm cnt
  | shrEwCnt8 rm cnt | sarEwCnt8 rm cnt => exact Acts.shift16 rfl
  | notEb rm => exact ⟨.not8 rm, .plain rfl⟩
  | notEw rm => exact ⟨.not16 rm, .plain rfl⟩
  | xchgEbGb rm reg => exact ⟨.xchg8 rm reg, .plain rfl⟩
  | xchgEwGw rm reg => exact ⟨.xchg16 rm reg, .plain rfl⟩
  | movEbGb rm reg => exact ⟨.store8 rm (s.reg8 reg), .plain rfl⟩
  | movEbIb rm imm => exact ⟨.store8 rm imm, .plain rfl⟩
  | movMoffsAL moffs => exact ⟨.store8 (.mem (.direct moffs)) (s.reg8 .al), .plain rfl⟩
  | movEwGw rm reg => exact ⟨.store16 rm (s.reg16 reg), .plain rfl⟩
  | movEwIw rm imm => exact ⟨.store16 rm imm, .plain rfl⟩
  | movEwSw rm sreg => exact ⟨.store16 rm (s.sreg sreg), .plain rfl⟩
  | movMoffsAX moffs => exact ⟨.store16 (.mem (.direct moffs)) (s.reg16 .ax), .plain rfl⟩
  | movGbEb reg rm => exact ⟨.load8 reg rm, .plain rfl⟩
  | movALMoffs moffs => exact ⟨.load8 .al (.mem (.direct moffs)), .plain rfl⟩
  | xlat =>
    exact ⟨.load8 .al (.mem (.direct (s.regs.bx + zext16 (s.reg8 .al)))), .plain rfl rfl
      (by rw [← xlatOffset]; rfl)⟩
  | movGwEw reg rm => exact ⟨.load16 reg rm, .plain rfl⟩
  | movAXMoffs moffs => exact ⟨.load16 .ax (.mem (.direct moffs)), .plain rfl⟩
  | movR8Ib reg imm => exact ⟨.set8 reg imm, .plain rfl⟩
  | lahf => exact ⟨.set8 .ah (loByte s.flags), .plain rfl⟩
  | movR16Iw reg imm => exact ⟨.set16 reg imm, .plain rfl⟩
  | lea reg mem => exact ⟨.set16 reg (eaOff mem s), .plain rfl⟩
  | cbw => exact ⟨.set16 .ax _, .plain rfl⟩
  | cwd => exact ⟨.set16 .dx _, .plain rfl⟩
  | xchgAXR16 reg => exact ⟨.xchgAX reg, .plain rfl⟩
  | movESEw rm | movSSEw rm | movDSEw rm => exact ⟨.loadSreg _ rm, .plain rfl⟩
  | popES | popSS | popDS => exact ⟨.popSreg _, .plain rfl⟩
  | les reg mem | lds reg mem => exact ⟨.loadFar _ reg mem, .plain rfl⟩
  | pushES | pushCS | pushSS | pushDS | pushf => exact ⟨.push _, .plain rfl⟩
  | pushR16 reg => exact ⟨.pushRm (.reg reg), .plain (congrArg _ (pushR16_eq reg s))⟩
  | pushEw rm => exact ⟨.pushRm rm, .plain rfl⟩
  | popR16 reg => exact ⟨.popRm (.reg reg), .plain rfl⟩
  | popEw rm => exact ⟨.popRm rm, .plain rfl⟩
  | popf => exact ⟨.popf, .plain rfl⟩
  | sahf => exact ⟨.sahf, .plain rfl⟩
  | cmc | clc | stc | cli | sti | cld | std => exact ⟨.putFlag _ _, .plain rfl⟩
  | jo rel | jno rel | jb rel | jae rel | je rel | jne rel | jbe rel | ja rel | js rel | jns rel | jp rel
  | jnp rel | jl rel | jge rel | jle rel | jg rel | jcxz rel => exact ⟨.jumpIf _ (sext16 rel), .plain rfl⟩
  | jmpRel8 rel => exact ⟨.jumpIf true (sext16 rel), .plain rfl⟩
  | jmpRel16 rel => exact ⟨.jumpIf true rel, .plain rfl⟩
  | loopne rel | loope rel | loop rel => exact ⟨.loopIf _ (sext16 rel), .plain rfl⟩
  | jmpFar off seg => exact ⟨.jumpFar off seg, .plain rfl⟩
  | jmpEw rm => exact ⟨.jumpRm rm, .plain rfl⟩
  | jmpFarM mem => exact ⟨.jumpMem mem, .plain rfl⟩
  | callRel16 rel => exact ⟨.callRel rel, .plain rfl⟩
  | callEw rm => exact ⟨.callRm rm, .plain rfl⟩
  | callFar off seg => exact ⟨.callFar off seg, .plain rfl⟩
  | callFarM mem => exact ⟨.callMem mem, .plain rfl⟩
  | ret => exact ⟨.ret, .plain rfl⟩
  | retPop cnt => exact ⟨.retPop cnt, .plain rfl⟩
  | retf => exact ⟨.retf, .plain rfl⟩
  | retfPop cnt => exact ⟨.retfPop cnt, .plain rfl⟩
  | int3 => exact ⟨.trap 3, .plain rfl⟩
  | int vec => exact ⟨.trap vec, .plain rfl⟩
  | into =>
    cases h : getFlag .OF s.flags with
    | true =>
      exact ⟨.trap 4, .plain (by simp [Machine.exec, execInto, h, Action.run])
        (by simp [Machine.effects, h, Action.effects]) (by simp [Machine.loads, h, Action.loads])⟩
    | false =>
      exact ⟨.nop, .plain (by simp [Machine.exec, execInto, h, Action.run])
        (by simp [Machine.effects, h, Action.effects]) (by simp [Machine.loads, h, Action.loads])⟩
  | iret => exact ⟨.iret, .plain rfl⟩
  | movsb => exact ⟨.movs8, .plain rfl⟩
  | movsw => exact ⟨.movs16, .plain rfl⟩
  | cmpsb => exact ⟨.cmps8, .plain rfl⟩
  | cmpsw => exact ⟨.cmps16, .plain rfl⟩
  | stosb => exact ⟨.stos8, .plain rfl⟩
  | stosw => exact ⟨.stos16, .plain rfl⟩
  | lodsb => exact ⟨.lods8, .plain rfl⟩
  | lodsw => exact ⟨.lods16, .plain rfl⟩
  | scasb => exact ⟨.scas8, .plain rfl⟩
  | scasw => exact ⟨.scas16, .plain rfl⟩
  | nop | lock => exact ⟨.nop, .plain rfl⟩
  | hlt => exact ⟨.hlt, rfl, rfl, rfl, fun _ => rfl, by rintro (⟨_, h⟩ | ⟨_, h⟩) <;> cases h⟩
  | segES | segCS | segSS | segDS => exact ⟨.setOverride _, rfl, rfl, rfl, nofun, fun _ => rfl⟩
  | repne | rep => exact ⟨.setRepeat _, rfl, rfl, rfl, nofun, fun _ => rfl⟩

/-- What a run of an instruction answers is what its action runs. -/
theorem action_of_next {i : Instr} {s t : State} (h : exec i s = .next t) : ∃ a, Acts i s a ∧ t = a.run s := by
  obtain ⟨a, ha⟩ := action_of i s
  have he := ha.exec
  rw [h] at he
  injection he with ht
  exact ⟨a, ha, ht⟩

end Sys2Proof.Proofs
end

section
/-! The frames of the registers, the flags, the segment registers and `pc`: proved once of each action. -/

namespace Sys2Proof.Proofs

open Sys2Proof Sys2Proof.Machine Sys2Proof.Laws

/-! ## General registers -/

/-- A state whose registers differ in SI and DI alone. -/
theorem keepsRegs_si_di {bs : List Reg8} {rs : List Reg16} (hsi : Reg16.si ∈ rs) (hdi : Reg16.di ∈ rs) {s t : State}
    {v w : Word} (h : t.regs = { s.regs with si := v, di := w }) : KeepsRegs bs rs s t := by
  refine .then_regs (t := setReg16 .di w (setReg16 .si v s))
    ((keepsRegs_setReg16 hsi v s).trans (keepsRegs_setReg16 hdi w _)) ?_
  rw [h]; rfl

/-- A state whose registers differ in DI alone. -/
theorem keepsRegs_di {bs : List Reg8} {rs : List Reg16} (hdi : Reg16.di ∈ rs) {s t : State} {w : Word}
    (h : t.regs = { s.regs with di := w }) : KeepsRegs bs rs s t := by
  refine .then_regs (t := setReg16 .di w s) (keepsRegs_setReg16 hdi w s) ?_
  rw [h]; rfl

theorem keepsRegs_movsOne8 {bs : List Reg8} {rs : List Reg16} (hsi : Reg16.si ∈ rs) (hdi : Reg16.di ∈ rs) (src : SReg)
    (d : Word) (s : State) : KeepsRegs bs rs s (movsOne8 src d s) :=
  keepsRegs_si_di hsi hdi (movsOne8_regs src d s)

theorem keepsRegs_movsOne16 {bs : List Reg8} {rs : List Reg16} (hsi : Reg16.si ∈ rs) (hdi : Reg16.di ∈ rs) (src : SReg)
    (d : Word) (s : State) : KeepsRegs bs rs s (movsOne16 src d s) :=
  keepsRegs_si_di hsi hdi (movsOne16_regs src d s)

theorem keepsRegs_cmpsOne8 {bs : List Reg8} {rs : List Reg16} (hsi : Reg16.si ∈ rs) (hdi : Reg16.di ∈ rs) (src : SReg)
    (d : Word) (s : State) : KeepsRegs bs rs s (cmpsOne8 src d s) :=
  keepsRegs_si_di hsi hdi (cmpsOne8_regs src d s)

theorem keepsRegs_cmpsOne16 {bs : List Reg8} {rs : List Reg16} (hsi : Reg16.si ∈ rs) (hdi : Reg16.di ∈ rs) (src : SReg)
    (d : Word) (s : State) : KeepsRegs bs rs s (cmpsOne16 src d s) :=
  keepsRegs_si_di hsi hdi (cmpsOne16_regs src d s)

theorem keepsRegs_stosOne8 {bs : List Reg8} {rs : List Reg16} (hdi : Reg16.di ∈ rs) (d : Word) (s : State) :
    KeepsRegs bs rs s (stosOne8 d s) := keepsRegs_di hdi (stosOne8_regs d s)

theorem keepsRegs_stosOne16 {bs : List Reg8} {rs : List Reg16} (hdi : Reg16.di ∈ rs) (d : Word) (s : State) :
    KeepsRegs bs rs s (stosOne16 d s) := keepsRegs_di hdi (stosOne16_regs d s)

theorem keepsRegs_scasOne8 {bs : List Reg8} {rs : List Reg16} (hdi : Reg16.di ∈ rs) (d : Word) (s : State) :
    KeepsRegs bs rs s (scasOne8 d s) := keepsRegs_di hdi (scasOne8_regs d s)

theorem keepsRegs_scasOne16 {bs : List Reg8} {rs : List Reg16} (hdi : Reg16.di ∈ rs) (d : Word) (s : State) :
    KeepsRegs bs rs s (scasOne16 d s) := keepsRegs_di hdi (scasOne16_regs d s)

theorem keepsRegs_lodsOne8 {bs : List Reg8} {rs : List Reg16} (ha : Reg8.al ∈ bs) (hsi : Reg16.si ∈ rs) (src : SReg)
    (d : Word) (s : State) : KeepsRegs bs rs s (lodsOne8 src d s) :=
  .after_regs (t := (segRead8 src s.regs.si s).2) (by simp)
    ((keepsRegs_setReg8 ha _ _).trans (keepsRegs_setReg16 hsi _ _))

theorem keepsRegs_lodsOne16 {bs : List Reg8} {rs : List Reg16} (ha : Reg16.ax ∈ rs) (hsi : Reg16.si ∈ rs) (src : SReg)
    (d : Word) (s : State) : KeepsRegs bs rs s (lodsOne16 src d s) :=
  .after_regs (t := (segRead16 src s.regs.si s).2) (by simp)
    ((keepsRegs_setReg16 ha _ _).trans (keepsRegs_setReg16 hsi _ _))

theorem cx_mem_of_rep {rs : List Reg16} {s : State} (h : ∀ r ∈ repCx s, r ∈ rs) (hr : s.rep.isSome = true) :
    Reg16.cx ∈ rs := h .cx (by simp [repCx, hr])

/-- No action writes a register that it does not name. -/
theorem Action.keepsRegs (a : Action) (s : State) : KeepsRegs (a.effects s).regs8 (a.effects s).regs16 s (a.run s) := by
  cases a with
  | alu8 op rm b =>
    cases op with
    | cmp => exact .of_regs (aluPlace8_cmp_regs _ _ _)
    | _ => exact keepsRegs_aluPlace8 _ rm b s
  | alu16 op rm b =>
    cases op with
    | cmp => exact .of_regs (aluPlace16_cmp_regs _ _ _)
    | _ => exact keepsRegs_aluPlace16 _ rm b s
  | aluReg8 op reg rm =>
    cases op with
    | cmp => exact .of_regs (aluReg8_cmp_regs _ _ _)
    | _ => exact keepsRegs_aluReg8 _ reg _ s
  | aluReg16 op reg rm =>
    cases op with
    | cmp => exact .of_regs (aluReg16_cmp_regs _ _ _)
    | _ => exact keepsRegs_aluReg16 _ reg _ s
  | unary8 u rm => exact keepsRegs_unaryPlace8 _ rm s
  | unary16 u rm => exact keepsRegs_unaryPlace16 _ rm s
  | shift8 op raw rm => exact keepsRegs_shiftPlace8 op raw rm s
  | shift16 op raw rm => exact keepsRegs_shiftPlace16 op raw rm s
  | not8 rm => exact keepsRegs_notPlace8 rm s
  | not16 rm => exact keepsRegs_notPlace16 rm s
  | xchg8 rm reg => exact keepsRegs_xchgPlace8 rm reg s
  | xchg16 rm reg => exact keepsRegs_xchgPlace16 rm reg s
  | store8 rm v => exact keepsRegs_writePlace8 (fun _ h => h) s s v
  | store16 rm v => exact keepsRegs_writePlace16 (fun _ h => h) s s v
  | load8 reg rm => exact .after_regs (readPlace8_regs _ _) (keepsRegs_setReg8 (by simp [Action.effects]) _ _)
  | load16 reg rm => exact .after_regs (readPlace16_regs _ _) (keepsRegs_setReg16 (by simp [Action.effects]) _ _)
  | set8 reg v => exact keepsRegs_setReg8 (by simp [Action.effects]) v s
  | set16 reg v => exact keepsRegs_setReg16 (by simp [Action.effects]) v s
  | xchgAX reg =>
    exact (keepsRegs_setReg16 (by simp [Action.effects]) _ s).trans (keepsRegs_setReg16 (by simp [Action.effects]) _ _)
  | loadFar j reg m =>
    exact .after_regs (readFar_regs m s)
      ((keepsRegs_setReg16 (by simp [Action.effects]) _ _).then_regs (setSreg_regs _ _ _))
  | popSreg j => exact (keepsRegs_pop (by simp [Action.effects]) s).then_regs (setSreg_regs _ _ _)
  | push v | callRel d => exact (keepsRegs_push (by simp [Action.effects]) _ s).then_regs rfl
  | pushRm rm => exact keepsRegs_pushPlace16 _ s
  | popRm rm => exact keepsRegs_popPlace16 rm s
  | popf | ret => exact (keepsRegs_pop (by simp [Action.effects]) s).then_regs rfl
  | loopIf taken d => exact (keepsRegs_setReg16 (by simp [Action.effects]) _ s).then_regs (jumpIf_regs _ _ _)
  | callRm rm =>
    exact .after_regs (readPlace16_regs _ s)
      ((keepsRegs_push (by simp [Action.effects]) _ _).then_regs (setPc_regs _ _))
  | callFar off seg => exact keepsRegs_callFarTo off seg s
  | callMem m => exact .after_regs (readFar_regs m s) (keepsRegs_callFarTo _ _ _)
  | retPop cnt =>
    exact ((keepsRegs_pop (by simp [Action.effects]) s).then_regs (setPc_regs _ _)).trans
      (keepsRegs_setReg16 (by simp [Action.effects]) _ _)
  | retf => exact keepsRegs_returnFar s
  | retfPop cnt => exact (keepsRegs_returnFar s).trans (keepsRegs_setReg16 (by simp) _ _)
  | trap n => exact keepsRegs_trap n s.pc s
  | iret => exact keepsRegs_trapReturn s
  | movs8 =>
    exact keepsRegs_repeatPlain (keepsRegs_movsOne8 (by simp [Action.effects]) (by simp [Action.effects]) _ _)
      (cx_mem_of_rep (s := s) fun _ h => by simp [Action.effects, h])
  | movs16 =>
    exact keepsRegs_repeatPlain (keepsRegs_movsOne16 (by simp [Action.effects]) (by simp [Action.effects]) _ _)
      (cx_mem_of_rep (s := s) fun _ h => by simp [Action.effects, h])
  | cmps8 =>
    exact keepsRegs_repeatCompare (keepsRegs_cmpsOne8 (by simp [Action.effects]) (by simp [Action.effects]) _ _)
      (cx_mem_of_rep (s := s) fun _ h => by simp [Action.effects, h])
  | cmps16 =>
    exact keepsRegs_repeatCompare (keepsRegs_cmpsOne16 (by simp [Action.effects]) (by simp [Action.effects]) _ _)
      (cx_mem_of_rep (s := s) fun _ h => by simp [Action.effects, h])
  | stos8 =>
    exact keepsRegs_repeatPlain (keepsRegs_stosOne8 (by simp [Action.effects]) _)
      (cx_mem_of_rep (s := s) fun _ h => by simp [Action.effects, h])
  | stos16 =>
    exact keepsRegs_repeatPlain (keepsRegs_stosOne16 (by simp [Action.effects]) _)
      (cx_mem_of_rep (s := s) fun _ h => by simp [Action.effects, h])
  | scas8 =>
    exact keepsRegs_repeatCompare (keepsRegs_scasOne8 (by simp [Action.effects]) _)
      (cx_mem_of_rep (s := s) fun _ h => by simp [Action.effects, h])
  | scas16 =>
    exact keepsRegs_repeatCompare (keepsRegs_scasOne16 (by simp [Action.effects]) _)
      (cx_mem_of_rep (s := s) fun _ h => by simp [Action.effects, h])
  | lods8 =>
    exact keepsRegs_repeatPlain (keepsRegs_lodsOne8 (by simp [Action.effects]) (by simp [Action.effects]) _ _)
      (cx_mem_of_rep (s := s) fun _ h => by simp [Action.effects, h])
  | lods16 =>
    exact keepsRegs_repeatPlain (keepsRegs_lodsOne16 (by simp [Action.effects]) (by simp [Action.effects]) _ _)
      (cx_mem_of_rep (s := s) fun _ h => by simp [Action.effects, h])
  | test8 | test16 | loadSreg | jumpRm | jumpMem | jumpIf | sahf | putFlag | jumpFar | nop | hlt | setOverride
  | setRepeat => exact .of_regs (by simp [Action.run, jumpNear, jumpPointer, Machine.loadSreg])

/-- Settles O1: each action keeps the registers outside its effects. -/
theorem registerFrame : Obligations.RegisterFrame := by
  intro i s t h
  obtain ⟨a, ha, rfl⟩ := action_of_next h
  rw [ha.effects]
  exact a.keepsRegs s

/-! ## Flags -/

/-- The two-operand operations write the six status flags alone (41_arithmetic R171, R172, 42_logical R200). -/
theorem getFlag_aluOp_of_not_status {w : Nat} {x : Flag} (hx : x ∉ statusFlags) (op : AluOp) (a b : BitVec w) (f : Word) :
    getFlag x (aluOp op a b f).2 = getFlag x f := by
  cases op <;> cases x <;> simp_all [statusFlags, aluOp, getFlag_addOp, getFlag_subOp, getFlag_logicFlags]

theorem getFlag_subOp_of_not_status {w : Nat} {x : Flag} (hx : x ∉ statusFlags) (a b : BitVec w) (f : Word) :
    getFlag x (subOp a b false f).2 = getFlag x f := getFlag_aluOp_of_not_status hx .cmp a b f

theorem getFlag_logicFlags_of_not_status {w : Nat} {x : Flag} (hx : x ∉ statusFlags) (r : BitVec w) (f : Word) :
    getFlag x (logicFlags r f) = getFlag x f := by
  cases x <;> simp_all [statusFlags, getFlag_logicFlags]

theorem getFlag_unary_of_not_written {w : Nat} {x : Flag} {u : Unary} (hx : x ∉ u.flags) (a : BitVec w) (f : Word) :
    getFlag x (u.apply a f).2 = getFlag x f := by
  cases u <;> cases x <;>
    simp_all [Unary.flags, Unary.apply, statusFlags, incOp, decOp, negOp, getFlag_addOp, getFlag_subOp]

theorem getFlag_shiftFlags_of_not_written {w : Nat} {x : Flag} {op : ShiftOp} {raw : Byte} (hc : shiftCount raw ≠ 0)
    (hx : x ∉ shiftWrites op raw) (v : BitVec w) (cf : Bool) (f : Word) :
    getFlag x (shiftFlags op v cf f) = getFlag x f := by
  cases h : shiftSetsSzp op <;> cases x <;>
    simp_all [shiftWrites, shiftedFlags, rotateFlags, getFlag_shiftFlags]

/-- A repeated compare keeps the flags that it does not name. -/
theorem getFlag_repeatCompare {x : Flag} {s : State} (hx : x ∉ comparedFlags s) {one : State → State}
    (hone : x ∉ statusFlags → ∀ a, getFlag x (one a).flags = getFlag x a.flags) :
    getFlag x (repeatCompare one s).flags = getFlag x s.flags := by
  by_cases h : s.rep.isSome = true ∧ s.regs.cx = 0
  · rw [repeatCompare_of_cx_zero h.1 h.2]
  · have hx' : x ∉ statusFlags := by rwa [comparedFlags, if_neg h] at hx
    exact repeatCompare_eq (f := fun a => getFlag x a.flags) (hone hx') (fun _ => by simp) s

/-- No action changes a flag that it does not name. -/
theorem Action.keepsFlags (a : Action) (s : State) {x : Flag} (hx : x ∉ (a.effects s).flags) :
    getFlag x (a.run s).flags = getFlag x s.flags := by
  cases a with
  | alu8 op | alu16 op | aluReg8 op | aluReg16 op =>
    have hx' : x ∉ statusFlags := by
      intro h
      apply hx
      unfold Action.effects
      dsimp only
      split <;> exact h
    simp [Action.run, getFlag_aluOp_of_not_status hx']
  | unary8 u | unary16 u => simp [Action.run, getFlag_unary_of_not_written (u := u) hx]
  | test8 | test16 => simp [Action.run, getFlag_logicFlags_of_not_status hx]
  | shift8 op raw | shift16 op raw =>
    simp only [Action.run, shiftPlace8_flags, shiftPlace16_flags]
    split
    · rfl
    · next hc => exact getFlag_shiftFlags_of_not_written hc hx _ _ _
  | popf | iret => cases x <;> simp [Action.effects, allFlags] at hx
  | sahf => cases x <;> simp_all [Action.effects, Action.run]
  | putFlag y b =>
    have hy : x ≠ y := by simpa [Action.effects] using hx
    simp [Action.run, hy]
  | trap n => cases x <;> simp_all [Action.effects, Action.run]
  | cmps8 | cmps16 | scas8 | scas16 =>
    exact getFlag_repeatCompare hx fun h a => by simp [getFlag_subOp_of_not_status h]
  | movs8 | movs16 | stos8 | stos16 | lods8 | lods16 =>
    exact repeatPlain_eq (f := fun a => getFlag x a.flags) (by simp) (by simp) s
  | not8 | not16 | xchg8 | xchg16 | store8 | store16 | load8 | load16 | set8 | set16 | xchgAX | loadSreg | popSreg
  | loadFar | push | pushRm | popRm | jumpIf | loopIf | jumpFar | jumpRm | jumpMem | callRel | callRm | callFar
  | callMem | ret | retPop | retf | retfPop | nop | hlt | setOverride | setRepeat =>
    simp [Action.run, jumpNear, jumpPointer, Machine.loadSreg, Machine.loadFar, loadReg8, loadReg16, callNear,
      callPointer, callFarTo]

theorem flagsFixed_unary {w : Nat} (u : Unary) (a : BitVec w) {f : Word} (h : FlagsFixed f) :
    FlagsFixed (u.apply a f).2 := by
  cases u with
  | inc => exact flagsFixed_incOp a h
  | dec => exact flagsFixed_decOp a h
  | neg => exact flagsFixed_negOp a h

/-- Every action leaves the fixed bits of FLAGS as they must read. -/
theorem Action.flagsFixed (a : Action) {s : State} (h : FlagsFixed s.flags) : FlagsFixed (a.run s).flags := by
  cases a with
  | alu8 | alu16 | aluReg8 | aluReg16 => simpa [Action.run] using flagsFixed_aluOp _ _ _ h
  | unary8 u | unary16 u => simpa [Action.run] using flagsFixed_unary u _ h
  | test8 | test16 => simpa [Action.run] using flagsFixed_logicFlags _ h
  | shift8 op raw | shift16 op raw =>
    simp only [Action.run, shiftPlace8_flags, shiftPlace16_flags]
    split
    · exact h
    · exact flagsFixed_shiftFlags _ _ _ h
  | popf => exact flagsFixed_wholeFlags _
  | iret => simpa [Action.run] using flagsFixed_wholeFlags _
  | sahf => exact flagsFixed_sahfFlags _ h
  | putFlag x b => exact flagsFixed_putFlag x b h
  | trap n => simpa [Action.run] using flagsFixed_putFlag .TF false (flagsFixed_putFlag .IF false h)
  | cmps8 | cmps16 | scas8 | scas16 =>
    exact repeatCompare_keeps (P := fun a => FlagsFixed a.flags) (fun a ha => by simpa using flagsFixed_subOp _ _ _ ha)
      (fun a ha => by simpa using ha) h
  | movs8 | movs16 | stos8 | stos16 | lods8 | lods16 =>
    exact repeatPlain_keeps (P := fun a => FlagsFixed a.flags) (fun a ha => by simpa using ha)
      (fun a ha => by simpa using ha) h
  | not8 | not16 | xchg8 | xchg16 | store8 | store16 | load8 | load16 | set8 | set16 | xchgAX | loadSreg | popSreg
  | loadFar | push | pushRm | popRm | jumpIf | loopIf | jumpFar | jumpRm | jumpMem | callRel | callRm | callFar
  | callMem | ret | retPop | retf | retfPop | nop | hlt | setOverride | setRepeat =>
    simpa [Action.run, jumpNear, jumpPointer, Machine.loadSreg, Machine.loadFar, loadReg8, loadReg16, callNear,
      callPointer, callFarTo] using h

/-- Settles O2: each action keeps the flags outside its effects and the fixed bits. -/
theorem flagFrame : Obligations.FlagFrame := by
  intro i s t h
  obtain ⟨a, ha, rfl⟩ := action_of_next h
  rw [ha.effects]
  exact ⟨fun _ hx => a.keepsFlags s hx, a.flagsFixed⟩

/-! ## Segment registers and `pc` -/

theorem sreg_of_segs {s t : State} (h : t.segs = s.segs) (j : SReg) : t.sreg j = s.sreg j := by
  cases j <;> simp [h]

/-- No action changes a segment register that it does not name. -/
theorem Action.keepsSregs (a : Action) (s : State) {j : SReg} (hj : j ∉ (a.effects s).sregs) :
    (a.run s).sreg j = s.sreg j := by
  cases a with
  | movs8 | movs16 | stos8 | stos16 | lods8 | lods16 =>
    exact sreg_of_segs (repeatPlain_eq (f := State.segs) (by simp) (by simp) s) j
  | cmps8 | cmps16 | scas8 | scas16 =>
    exact sreg_of_segs (repeatCompare_eq (f := State.segs) (by simp) (by simp) s) j
  | loadSreg k rm | popSreg k =>
    have hk : j ≠ k := by simpa [Action.effects] using hj
    exact (sreg_setSreg k j _ _).trans (by simp [hk])
  | loadFar k reg m =>
    have hk : j ≠ k := by simpa [Action.effects] using hj
    simp [Action.run, Machine.loadFar, hk]
  | jumpFar | jumpMem | callFar | callMem | retf | retfPop | iret | trap =>
    have hk : j ≠ .cs := by simpa [Action.effects] using hj
    simp [Action.run, Machine.jumpFar, jumpPointer, callPointer, callFarTo, returnFar, releaseStack, trapReturn,
      Machine.trap, hk]
  | hlt | setOverride | setRepeat => rfl
  | _ =>
    simp [Action.run, jumpNear, loadReg8, loadReg16, callNear, releaseStack]

/-- No action changes `pc` but a control transfer. -/
theorem Action.keepsPc (a : Action) (s : State) (hj : (a.effects s).jumps = false) : (a.run s).pc = s.pc := by
  cases a with
  | movs8 | movs16 | stos8 | stos16 | lods8 | lods16 => exact repeatPlain_eq (f := State.pc) (by simp) (by simp) s
  | cmps8 | cmps16 | scas8 | scas16 => exact repeatCompare_eq (f := State.pc) (by simp) (by simp) s
  | jumpIf | loopIf | jumpFar | jumpRm | jumpMem | callRel | callRm | callFar | callMem | ret | retPop | retf
  | retfPop | trap | iret => cases hj
  | _ => simp [Action.run, loadReg8, loadReg16, Machine.loadSreg, Machine.loadFar]

/-- Settles O3: each action keeps the segment registers outside its effects, and pc unless it transfers control. -/
theorem segmentAndPcFrame : Obligations.SegmentAndPcFrame := by
  intro i s t h
  obtain ⟨a, ha, rfl⟩ := action_of_next h
  rw [ha.effects]
  exact ⟨fun _ hj => a.keepsSregs s hj, a.keepsPc s⟩

end Sys2Proof.Proofs
end

section
/-! The frame of memory: what each action stores to. The string instructions are followed element by element. -/

namespace Sys2Proof.Proofs

open Sys2Proof Sys2Proof.Machine Sys2Proof.Laws

/-! ## String instructions, element by element (44_string R241) -/

section
variable {P : Nat → State → Prop} {one : State → State}

/-- An indexed invariant of the repetition: `P k` before element `k`. -/
theorem repeatLoop_indexed {n : Nat} (hone : ∀ k a, k < n → P k a → P (k + 1) (one a))
    (hdec : ∀ k a, P k a → P k (decCx a)) (stop : State → Bool) (fuel : Nat) :
    ∀ (k : Nat) (a : State), k + fuel ≤ n → P k a → ∃ m, m ≤ n ∧ P m (repeatLoop one stop fuel a) := by
  induction fuel with
  | zero => exact fun k a hk h => ⟨k, hk, h⟩
  | succ fuel ih =>
    intro k a hk h
    have hnext : P (k + 1) (decCx (one a)) := hdec _ _ (hone k a (by omega) h)
    unfold repeatLoop
    split
    · exact ⟨k, by omega, h⟩
    · dsimp only
      split
      · exact ⟨k + 1, by omega, hnext⟩
      · exact ih (k + 1) _ (by omega) hnext

theorem repeatPlain_indexed {s : State} (hone : ∀ k a, k < elementCount s → P k a → P (k + 1) (one a))
    (hdec : ∀ k a, P k a → P k (decCx a)) (h : P 0 s) : ∃ m, m ≤ elementCount s ∧ P m (repeatPlain one s) := by
  unfold repeatPlain
  split
  · next hr =>
    have hc : elementCount s = 1 := by simp [elementCount, hr]
    exact ⟨1, by omega, hone 0 s (by omega) h⟩
  · next r hr =>
    have hc : elementCount s = s.regs.cx.toNat := by simp [elementCount, hr]
    exact repeatLoop_indexed hone hdec _ _ 0 s (by omega) h

theorem repeatCompare_indexed {s : State} (hone : ∀ k a, k < elementCount s → P k a → P (k + 1) (one a))
    (hdec : ∀ k a, P k a → P k (decCx a)) (h : P 0 s) : ∃ m, m ≤ elementCount s ∧ P m (repeatCompare one s) := by
  unfold repeatCompare
  split
  · next hr =>
    have hc : elementCount s = 1 := by simp [elementCount, hr]
    exact ⟨1, by omega, hone 0 s (by omega) h⟩
  · next r hr =>
    have hc : elementCount s = s.regs.cx.toNat := by simp [elementCount, hr]
    exact repeatLoop_indexed hone hdec _ _ 0 s (by omega) h

end

/-- `a` stands before element `k` of a string instruction begun in `s`: MAP and the segment registers are as they were, SI
and DI have moved `k` times, by `dsi` and `ddi`. -/
structure AtElement (s : State) (dsi ddi : Word) (k : Nat) (a : State) : Prop where
  map : a.map = s.map
  segs : a.segs = s.segs
  si : a.regs.si = s.regs.si + BitVec.ofNat 16 k * dsi
  di : a.regs.di = s.regs.di + BitVec.ofNat 16 k * ddi

theorem add_ofNat_succ_mul (x d : Word) (k : Nat) :
    x + BitVec.ofNat 16 k * d + d = x + BitVec.ofNat 16 (k + 1) * d := by
  have h : BitVec.ofNat 16 (k + 1) = BitVec.ofNat 16 k + 1 := by simp [BitVec.ofNat_add]
  rw [h]
  ring

namespace AtElement

variable {s : State} {dsi ddi : Word} {k : Nat} {a : State}

theorem start (s : State) (dsi ddi : Word) : AtElement s dsi ddi 0 s := ⟨rfl, rfl, by simp, by simp⟩

theorem dec (h : AtElement s dsi ddi k a) : AtElement s dsi ddi k (decCx a) :=
  ⟨by simp [h.map], by simp [h.segs], by simp [h.si], by simp [h.di]⟩

/-- The element moves SI and DI once. -/
theorem next (h : AtElement s dsi ddi k a) {b : State} (hm : b.map = a.map) (hs : b.segs = a.segs)
    (hsi : b.regs.si = a.regs.si + dsi) (hdi : b.regs.di = a.regs.di + ddi) : AtElement s dsi ddi (k + 1) b :=
  ⟨hm.trans h.map, hs.trans h.segs, by rw [hsi, h.si, add_ofNat_succ_mul], by rw [hdi, h.di, add_ofNat_succ_mul]⟩

theorem sreg (h : AtElement s dsi ddi k a) (j : SReg) : a.sreg j = s.sreg j := sreg_of_segs h.segs j

/-- The bytes at ES:DI are destination bytes of the whole instruction. -/
theorem destination {n : Nat} (h : AtElement s dsi (stringDelta (BitVec.ofNat 16 n) s.flags) k a)
    (hk : k < elementCount s) : ∀ x ∈ segBytes .es a.regs.di n a, x ∈ elementBytes n s := by
  intro x hx
  rw [segBytes_congr (h.sreg .es), h.di] at hx
  exact List.mem_flatMap.mpr ⟨k, List.mem_range.mpr hk, hx⟩

/-- The bytes at the source segment and SI are source bytes of the whole instruction. -/
theorem source {n : Nat} (h : AtElement s (stringDelta (BitVec.ofNat 16 n) s.flags) ddi k a)
    (hk : k < elementCount s) : ∀ x ∈ segBytes (overridden .ds s) a.regs.si n a, x ∈ sourceBytes n s := by
  intro x hx
  rw [segBytes_congr (h.sreg _), h.si] at hx
  exact List.mem_flatMap.mpr ⟨k, List.mem_range.mpr hk, hx⟩

end AtElement

theorem elementBytes_eq_nil {n : Nat} (hn : 0 < n) {s : State} (h : elementBytes n s = []) : elementCount s = 0 := by
  by_contra hc
  have h0 : 0 ∈ List.range (elementCount s) := List.mem_range.mpr (by omega)
  have hb := List.flatMap_eq_nil_iff.mp h 0 h0
  simp [segBytes] at hb
  omega

/-- Without an element nothing happens. -/
theorem repeatPlain_of_no_element {s : State} (h : elementCount s = 0) (one : State → State) :
    repeatPlain one s = s := by
  unfold repeatPlain
  split
  · next hr => simp [elementCount, hr] at h
  · next r hr =>
    have hc : s.regs.cx = 0 := by
      apply BitVec.eq_of_toNat_eq
      simpa [elementCount, hr] using h
    exact repeatLoop_of_cx_zero hc _ _ _

/-! ## Stores -/

section
variable {as : List Addr} {a : State}

theorem stores_movsOne8 (src : SReg) (d : Word) (h : ∀ x ∈ segBytes .es a.regs.di 1 a, x ∈ as) :
    Stores as a (movsOne8 src d a) := by
  have hw : Stores as (segRead8 src a.regs.si a).2 (segWrite8 .es (segRead8 src a.regs.si a).2.regs.di
      (segRead8 src a.regs.si a).1 (segRead8 src a.regs.si a).2) :=
    stores_segWrite8 (by rw [segBytes_congr (s := a) (by simp)]; simpa using h) _
  exact (Stores.of_eq (by simp) (by simp)).trans (hw.trans (.of_eq (by simp [movsOne8]) (by simp [movsOne8])))

theorem stores_movsOne16 (src : SReg) (d : Word) (h : ∀ x ∈ segBytes .es a.regs.di 2 a, x ∈ as) :
    Stores as a (movsOne16 src d a) := by
  have hw : Stores as (segRead16 src a.regs.si a).2 (segWrite16 .es (segRead16 src a.regs.si a).2.regs.di
      (segRead16 src a.regs.si a).1 (segRead16 src a.regs.si a).2) :=
    stores_segWrite16 (by rw [segBytes_congr (s := a) (by simp)]; simpa using h) _
  exact (Stores.of_eq (by simp) (by simp)).trans (hw.trans (.of_eq (by simp [movsOne16]) (by simp [movsOne16])))

theorem stores_stosOne8 (d : Word) (h : ∀ x ∈ segBytes .es a.regs.di 1 a, x ∈ as) : Stores as a (stosOne8 d a) :=
  (stores_segWrite8 h (a.reg8 .al)).trans (.of_eq (by simp [stosOne8]) (by simp [stosOne8]))

theorem stores_stosOne16 (d : Word) (h : ∀ x ∈ segBytes .es a.regs.di 2 a, x ∈ as) : Stores as a (stosOne16 d a) :=
  (stores_segWrite16 h (a.reg16 .ax)).trans (.of_eq (by simp [stosOne16]) (by simp [stosOne16]))

end

/-- A plain repetition stores to the destination bytes of its elements. -/
theorem stores_repeatPlain {n : Nat} {one : State → State} {s : State} {dsi : Word}
    (hone : ∀ a, (∀ x ∈ segBytes .es a.regs.di n a, x ∈ elementBytes n s) → Stores (elementBytes n s) a (one a))
    (hnext : ∀ k a, AtElement s dsi (stringDelta (BitVec.ofNat 16 n) s.flags) k a →
      AtElement s dsi (stringDelta (BitVec.ofNat 16 n) s.flags) (k + 1) (one a)) :
    Stores (elementBytes n s) s (repeatPlain one s) := by
  obtain ⟨_, _, _, h⟩ := repeatPlain_indexed (s := s) (one := one)
    (P := fun k a => AtElement s dsi (stringDelta (BitVec.ofNat 16 n) s.flags) k a ∧ Stores (elementBytes n s) s a)
    (fun k a hk h => ⟨hnext k a h.1, h.2.trans (hone a (h.1.destination hk))⟩)
    (fun k a h => ⟨h.1.dec, h.2.trans (.of_eq (by simp) (by simp))⟩) ⟨.start s _ _, .refl _ s⟩
  exact h

theorem stores_movs8 (s : State) : Stores (elementBytes 1 s) s (Action.movs8.run s) :=
  stores_repeatPlain (fun _ h => stores_movsOne8 _ _ h)
    (fun _ _ h => h.next (by simp) (by simp) (by simp; rfl) (by simp))

theorem stores_movs16 (s : State) : Stores (elementBytes 2 s) s (Action.movs16.run s) :=
  stores_repeatPlain (fun _ h => stores_movsOne16 _ _ h)
    (fun _ _ h => h.next (by simp) (by simp) (by simp; rfl) (by simp))

theorem stores_stos8 (s : State) : Stores (elementBytes 1 s) s (Action.stos8.run s) :=
  stores_repeatPlain (dsi := 0) (fun _ h => stores_stosOne8 _ h)
    (fun _ _ h => h.next (by simp) (by simp) (by simp) (by simp))

theorem stores_stos16 (s : State) : Stores (elementBytes 2 s) s (Action.stos16.run s) :=
  stores_repeatPlain (dsi := 0) (fun _ h => stores_stosOne16 _ h)
    (fun _ _ h => h.next (by simp) (by simp) (by simp) (by simp))

theorem stores_operand8 {rm : Rm8} {s t : State} (h : Stores (placeBytes8 (place8 rm s) s) s t) :
    Stores (rmStore8 rm s) s t := by rwa [rmStore8_eq]

theorem stores_operand16 {rm : Rm16} {s t : State} (h : Stores (placeBytes16 (place16 rm s) s) s t) :
    Stores (rmStore16 rm s) s t := by rwa [rmStore16_eq]

/-- An action stores to the addresses that it names alone. -/
theorem Action.stores (a : Action) (s : State) : Stores (a.effects s).stores s (a.run s) := by
  cases a with
  | alu8 op rm b =>
    cases op with
    | cmp => exact .of_eq (aluPlace8_map _ _ _ _) (by simp [Action.run, aluPlace8, aluWrites])
    | _ => exact stores_operand8 (stores_aluPlace8 _ _ b s)
  | alu16 op rm b =>
    cases op with
    | cmp => exact .of_eq (aluPlace16_map _ _ _ _) (by simp [Action.run, aluPlace16, aluWrites])
    | _ => exact stores_operand16 (stores_aluPlace16 _ _ b s)
  | unary8 u rm => exact stores_operand8 (stores_unaryPlace8 _ _ s)
  | unary16 u rm => exact stores_operand16 (stores_unaryPlace16 _ _ s)
  | shift8 op raw rm =>
    show Stores (if shiftCount raw = 0 then [] else rmStore8 rm s) s _
    rw [rmStore8_eq]
    exact stores_shiftPlace8 op raw _ s
  | shift16 op raw rm =>
    show Stores (if shiftCount raw = 0 then [] else rmStore16 rm s) s _
    rw [rmStore16_eq]
    exact stores_shiftPlace16 op raw _ s
  | not8 rm => exact stores_operand8 (stores_notPlace8 _ s)
  | not16 rm => exact stores_operand16 (stores_notPlace16 _ s)
  | xchg8 rm reg => exact stores_operand8 (stores_xchgPlace8 _ reg s)
  | xchg16 rm reg => exact stores_operand16 (stores_xchgPlace16 _ reg s)
  | store8 rm v => exact stores_writePlace8 (fun x hx => by rwa [← rmStore8_eq] at hx) v
  | store16 rm v => exact stores_writePlace16 (fun x hx => by rwa [← rmStore16_eq] at hx) v
  | push v => exact stores_push (fun _ h => h) v
  | pushRm rm => exact stores_pushPlace16 _ s
  | popRm rm => exact stores_operand16 (stores_popPlace16 _ s)
  | callRel d => exact (stores_push (fun _ h => h) s.pc).trans (.of_eq (jumpRel_map _ _) (jumpRel_mem _ _))
  | callRm rm =>
    refine (Stores.of_eq (t := (readPlace16 (place16 rm s) s).2) (by simp) (by simp)).trans
      ((stores_push ?_ _).trans (.of_eq (setPc_map _ _) (setPc_mem _ _)))
    rw [segBytes_congr (s := s) (by simp)]
    simp [Action.effects]
  | callFar off seg => exact stores_callFarTo off seg s
  | callMem m => exact stores_callPointer m s
  | trap n => exact stores_trap n s.pc s
  | movs8 => exact stores_movs8 s
  | movs16 => exact stores_movs16 s
  | stos8 => exact stores_stos8 s
  | stos16 => exact stores_stos16 s
  | lods8 | lods16 =>
    exact .of_eq (repeatPlain_eq (f := State.map) (by simp) (by simp) s)
      (repeatPlain_eq (f := State.mem) (by simp) (by simp) s)
  | cmps8 | cmps16 | scas8 | scas16 =>
    exact .of_eq (repeatCompare_eq (f := State.map) (by simp) (by simp) s)
      (repeatCompare_eq (f := State.mem) (by simp) (by simp) s)
  | aluReg8 | aluReg16 | test8 | test16 | load8 | load16 | set8 | set16 | xchgAX | loadSreg | popSreg | loadFar | popf
  | sahf | putFlag | jumpIf | loopIf | jumpFar | jumpRm | jumpMem | ret | retPop | retf | retfPop | iret | nop | hlt
  | setOverride | setRepeat =>
    exact .of_eq
      (by simp [Action.run, jumpNear, jumpPointer, Machine.loadSreg, Machine.loadFar, loadReg8, loadReg16])
      (by simp [Action.run, jumpNear, jumpPointer, Machine.loadSreg, Machine.loadFar, loadReg8, loadReg16])

/-! ## Actions that store nothing -/

theorem segBytes_ne_nil {j : SReg} {off : Word} {n : Nat} (hn : 0 < n) (s : State) : segBytes j off n s ≠ [] := by
  simp [segBytes]
  omega

/-- An operand without bytes in memory is a register. -/
theorem rmStore8_eq_nil {rm : Rm8} {s : State} (h : rmStore8 rm s = []) : ∃ r, rm = .reg r := by
  cases rm with
  | reg r => exact ⟨r, rfl⟩
  | mem m => exact absurd h (segBytes_ne_nil (by omega) s)

theorem rmStore16_eq_nil {rm : Rm16} {s : State} (h : rmStore16 rm s = []) : ∃ r, rm = .reg r := by
  cases rm with
  | reg r => exact ⟨r, rfl⟩
  | mem m => exact absurd h (segBytes_ne_nil (by omega) s)

theorem place8_reg (r : Reg8) (s : State) : place8 (.reg r) s = .reg r := rfl

theorem place16_reg (r : Reg16) (s : State) : place16 (.reg r) s = .reg r := rfl

@[simp] theorem writePlace8_reg_mem (r : Reg8) (v : Byte) (s : State) : (writePlace8 (.reg r) v s).mem = s.mem :=
  setReg8_mem r v s

@[simp] theorem writePlace16_reg_mem (r : Reg16) (v : Word) (s : State) : (writePlace16 (.reg r) v s).mem = s.mem :=
  setReg16_mem r v s

theorem aluPlace8_reg_mem (op : AluOp) (r : Reg8) (b : Byte) (s : State) :
    (aluPlace8 op (.reg r) b s).mem = s.mem := by cases op <;> simp [aluPlace8, aluWrites]

theorem aluPlace16_reg_mem (op : AluOp) (r : Reg16) (b : Word) (s : State) :
    (aluPlace16 op (.reg r) b s).mem = s.mem := by cases op <;> simp [aluPlace16, aluWrites]

theorem shiftPlace8_reg_mem (op : ShiftOp) (raw : Byte) (r : Reg8) (s : State) :
    (shiftPlace8 op raw (.reg r) s).mem = s.mem := by
  unfold shiftPlace8
  dsimp only
  split <;> simp

theorem shiftPlace16_reg_mem (op : ShiftOp) (raw : Byte) (r : Reg16) (s : State) :
    (shiftPlace16 op raw (.reg r) s).mem = s.mem := by
  unfold shiftPlace16
  dsimp only
  split <;> simp

/-- A shift by an effective count of 0 leaves memory alone (43_shift_rotate R220). -/
theorem shiftPlace8_zero_mem {op : ShiftOp} {raw : Byte} (h : shiftCount raw = 0) (p : Place8) (s : State) :
    (shiftPlace8 op raw p s).mem = s.mem := by simp [shiftPlace8, shiftOp, h]

theorem shiftPlace16_zero_mem {op : ShiftOp} {raw : Byte} (h : shiftCount raw = 0) (p : Place16) (s : State) :
    (shiftPlace16 op raw p s).mem = s.mem := by simp [shiftPlace16, shiftOp, h]

/-- An action that names no store leaves memory alone. -/
theorem Action.mem_of_no_stores (a : Action) (s : State) (h : (a.effects s).stores = []) : (a.run s).mem = s.mem := by
  cases a with
  | alu8 op rm b =>
    cases op with
    | cmp => simp [Action.run, aluPlace8, aluWrites]
    | _ => obtain ⟨r, rfl⟩ := rmStore8_eq_nil h; exact aluPlace8_reg_mem _ r b s
  | alu16 op rm b =>
    cases op with
    | cmp => simp [Action.run, aluPlace16, aluWrites]
    | _ => obtain ⟨r, rfl⟩ := rmStore16_eq_nil h; exact aluPlace16_reg_mem _ r b s
  | unary8 u rm | not8 rm | xchg8 rm reg =>
    obtain ⟨r, rfl⟩ := rmStore8_eq_nil h
    simp [Action.run, place8_reg, unaryPlace8, notPlace8, xchgPlace8]
  | unary16 u rm | not16 rm | xchg16 rm reg =>
    obtain ⟨r, rfl⟩ := rmStore16_eq_nil h
    simp [Action.run, place16_reg, unaryPlace16, notPlace16, xchgPlace16]
  | shift8 op raw rm =>
    by_cases hc : shiftCount raw = 0
    · exact shiftPlace8_zero_mem hc _ s
    · obtain ⟨r, rfl⟩ := rmStore8_eq_nil (s := s) (by simpa [Action.effects, hc] using h)
      exact shiftPlace8_reg_mem op raw r s
  | shift16 op raw rm =>
    by_cases hc : shiftCount raw = 0
    · exact shiftPlace16_zero_mem hc _ s
    · obtain ⟨r, rfl⟩ := rmStore16_eq_nil (s := s) (by simpa [Action.effects, hc] using h)
      exact shiftPlace16_reg_mem op raw r s
  | store8 rm v => obtain ⟨r, rfl⟩ := rmStore8_eq_nil h; exact setReg8_mem r v s
  | store16 rm v => obtain ⟨r, rfl⟩ := rmStore16_eq_nil h; exact setReg16_mem r v s
  | popRm rm =>
    obtain ⟨r, rfl⟩ := rmStore16_eq_nil h
    simp [Action.run, place16_reg, popPlace16]
  | push | pushRm | callRel | callRm | callFar | callMem | trap => exact absurd h (segBytes_ne_nil (by omega) s)
  | movs8 | stos8 =>
    exact congrArg State.mem (repeatPlain_of_no_element (elementBytes_eq_nil (n := 1) (by omega) h) _)
  | movs16 | stos16 =>
    exact congrArg State.mem (repeatPlain_of_no_element (elementBytes_eq_nil (n := 2) (by omega) h) _)
  | lods8 | lods16 => exact repeatPlain_eq (f := State.mem) (by simp) (by simp) s
  | cmps8 | cmps16 | scas8 | scas16 => exact repeatCompare_eq (f := State.mem) (by simp) (by simp) s
  | aluReg8 | aluReg16 | test8 | test16 | load8 | load16 | set8 | set16 | xchgAX | loadSreg | popSreg | loadFar | popf
  | sahf | putFlag | jumpIf | loopIf | jumpFar | jumpRm | jumpMem | ret | retPop | retf | retfPop | iret | nop | hlt
  | setOverride | setRepeat =>
    simp [Action.run, jumpNear, jumpPointer, Machine.loadSreg, Machine.loadFar, loadReg8, loadReg16]

/-- Settles O5: each action stores to the bytes of its effects, and one without such bytes leaves memory as it was. -/
theorem memoryFrame : Obligations.MemoryFrame := by
  intro i s t h
  obtain ⟨a, ha, rfl⟩ := action_of_next h
  rw [ha.effects]
  exact ⟨fun x hx => (a.stores s).peek8 hx, a.mem_of_no_stores s⟩

end Sys2Proof.Proofs
end

section
/-! The frame of the control state. Where the addresses an action reads and stores to select no handler, no device is
called, and the interrupt controller stays as it is. -/

namespace Sys2Proof.Proofs

open Sys2Proof Sys2Proof.Machine Sys2Proof.Laws

/-! ## Accesses that call no device -/

theorem quiet_mono {as bs : List Addr} {s : State} (hs : ∀ a ∈ as, a ∈ bs) (h : quiet bs s = true) :
    quiet as s = true := quiet_iff.mpr fun a ha => quiet_iff.mp h a (hs a ha)

/-- Quiet bytes of a segment, seen from a state with the same MAP and segment register. -/
theorem quiet_segBytes_congr {s t : State} {j : SReg} (hm : t.map = s.map) (hj : t.sreg j = s.sreg j) (off : Word)
    (n : Nat) : quiet (segBytes j off n t) t = quiet (segBytes j off n s) s := by
  rw [segBytes_congr hj, quiet_congr hm]

theorem readPlace8_of_quiet {p : Place8} {s : State} (h : quiet (placeBytes8 p s) s = true) : (readPlace8 p s).2 = s := by
  cases p with
  | reg r => rfl
  | mem j off => exact congrArg Prod.snd (segRead8_of_quiet h)

theorem readPlace16_of_quiet {p : Place16} {s : State} (h : quiet (placeBytes16 p s) s = true) :
    (readPlace16 p s).2 = s := by
  cases p with
  | reg r => rfl
  | mem j off => exact congrArg Prod.snd (segRead16_of_quiet h)

/-- A word read of two quiet bytes within a longer run. -/
theorem segRead16_within {j : SReg} {off off' : Word} {m i : Nat} {s : State} (h : quiet (segBytes j off m s) s = true)
    (ho : off' = off + BitVec.ofNat 16 i) (hi : i + 2 ≤ m) : segRead16 j off' s = (peekWord j off' s, s) :=
  segRead16_of_quiet (quiet_mono (segBytes_sub ho hi) h)

theorem readFar_of_quiet {m : MemRef} {s : State} (h : quiet (segBytes (eaSeg m s) (eaOff m s) 4 s) s = true) :
    (readFar m s).2 = s := by
  have h0 : segRead16 (eaSeg m s) (eaOff m s) s = _ := segRead16_within (i := 0) h (by simp) (by omega)
  have h2 : segRead16 (eaSeg m s) (eaOff m s + 2) s = _ := segRead16_within (i := 2) h rfl (by omega)
  simp only [readFar, h0, h2]

theorem controllerOf_segWrite8_quiet {j : SReg} {off : Word} (v : Byte) {s : State}
    (h : quiet (segBytes j off 1 s) s = true) : controllerOf (segWrite8 j off v s) = controllerOf s := by
  rw [segWrite8_of_quiet v h]; rfl

theorem controllerOf_segWrite16_quiet {j : SReg} {off : Word} (v : Word) {s : State}
    (h : quiet (segBytes j off 2 s) s = true) : controllerOf (segWrite16 j off v s) = controllerOf s := by
  rw [segWrite16_of_quiet v h]; rfl

/-- A write of a quiet place, after an operation that leaves MAP and the segment registers alone. -/
theorem controllerOf_writePlace8_quiet {p : Place8} (v : Byte) {s t : State} (hm : t.map = s.map) (hs : t.segs = s.segs)
    (h : quiet (placeBytes8 p s) s = true) : controllerOf (writePlace8 p v t) = controllerOf t := by
  cases p with
  | reg r => exact controllerOf_setReg8 r v t
  | mem j off => exact controllerOf_segWrite8_quiet v (by rwa [quiet_segBytes_congr hm (sreg_of_segs hs j)])

theorem controllerOf_writePlace16_quiet {p : Place16} (v : Word) {s t : State} (hm : t.map = s.map)
    (hs : t.segs = s.segs) (h : quiet (placeBytes16 p s) s = true) :
    controllerOf (writePlace16 p v t) = controllerOf t := by
  cases p with
  | reg r => exact controllerOf_setReg16 r v t
  | mem j off => exact controllerOf_segWrite16_quiet v (by rwa [quiet_segBytes_congr hm (sreg_of_segs hs j)])

/-! ## The stack -/

theorem controllerOf_push_quiet (v : Word) {s : State} (h : quiet (segBytes .ss (s.regs.sp - 2) 2 s) s = true) :
    controllerOf (push v s) = controllerOf s := by
  rw [push_of_quiet v h]; rfl

theorem controllerOf_pushSp_quiet {s : State} (h : quiet (segBytes .ss (s.regs.sp - 2) 2 s) s = true) :
    controllerOf (pushSp s) = controllerOf s :=
  controllerOf_segWrite16_quiet _ (by rwa [quiet_segBytes_congr (s := s) (by simp) (by simp)])

theorem controllerOf_push_push_quiet (v w : Word) {s : State} (h : quiet (segBytes .ss (s.regs.sp - 4) 4 s) s = true) :
    controllerOf (push w (push v s)) = controllerOf s := by
  have h1 : quiet (segBytes .ss (s.regs.sp - 2) 2 s) s = true :=
    quiet_mono (segBytes_sub (i := 2) (by bv_omega) (by omega)) h
  have h2 : quiet (segBytes .ss ((push v s).regs.sp - 2) 2 (push v s)) (push v s) = true := by
    rw [quiet_segBytes_congr (s := s) (by simp) (by simp)]
    exact quiet_mono (segBytes_sub (i := 0) (by simp; bv_omega) (by omega)) h
  rw [controllerOf_push_quiet w h2, controllerOf_push_quiet v h1]

theorem pop_of_quiet {s : State} (h : quiet (segBytes .ss s.regs.sp 2 s) s = true) :
    pop s = (peekWord .ss s.regs.sp s, { s with regs := { s.regs with sp := s.regs.sp + 2 } }) := by
  simp only [pop, segRead16_of_quiet h]; rfl

theorem controllerOf_pop_quiet {s : State} (h : quiet (segBytes .ss s.regs.sp 2 s) s = true) :
    controllerOf (pop s).2 = controllerOf s := by
  rw [pop_of_quiet h]; rfl

/-- The second pop of two. -/
theorem quiet_after_pop {n : Nat} {s : State} (h : quiet (segBytes .ss s.regs.sp (n + 2) s) s = true) :
    quiet (segBytes .ss (pop s).2.regs.sp n (pop s).2) (pop s).2 = true := by
  rw [quiet_segBytes_congr (s := s) (by simp) (by simp)]
  exact quiet_mono (segBytes_sub (i := 2) (by simp) (by omega)) h

theorem quiet_first_pop {n : Nat} (hn : 2 ≤ n) {s : State} (h : quiet (segBytes .ss s.regs.sp n s) s = true) :
    quiet (segBytes .ss s.regs.sp 2 s) s = true := quiet_mono (segBytes_sub (i := 0) (by simp) (by omega)) h

theorem controllerOf_returnFar_quiet {s : State} (h : quiet (segBytes .ss s.regs.sp 4 s) s = true) :
    controllerOf (returnFar s) = controllerOf s := by
  have h2 := controllerOf_pop_quiet (quiet_after_pop (n := 2) h)
  exact h2.trans (controllerOf_pop_quiet (quiet_first_pop (by omega) h))

theorem controllerOf_trapReturn_quiet {s : State} (h : quiet (segBytes .ss s.regs.sp 6 s) s = true) :
    controllerOf (trapReturn s) = controllerOf s := by
  have hq := quiet_after_pop (n := 4) h
  have h3 := controllerOf_pop_quiet (quiet_after_pop (n := 2) hq)
  have h2 := controllerOf_pop_quiet (quiet_first_pop (by omega) hq)
  have h1 := controllerOf_pop_quiet (quiet_first_pop (by omega) h)
  simp only [trapReturn, controllerOf_setFlags, controllerOf_setSreg, controllerOf_setPc, h3, h2, h1]

/-! ## Traps -/

/-- The two bytes of a word of the vector-table entry. -/
theorem memRead_vector_of_quiet {n : Byte} {s : State} (h : quiet (vectorBytes n) s = true) {i : Nat} (hi : i ≤ 2) :
    (memRead (Config.ivtBase + 4 * n.toNat + i) 2 s).2 = s := by
  refine memRead_of_quiet 2 (quiet_mono (fun a ha => ?_) h)
  simp only [vectorBytes, List.mem_map, List.mem_range] at ha ⊢
  obtain ⟨k, hk, rfl⟩ := ha
  exact ⟨i + k, by omega, by simp [Config.ivtBase, Nat.add_assoc]⟩

/-- The state of a trap entry after its three pushes (60_exceptions R321). -/
def trapPushed (ret : Word) (s : State) : State :=
  push ret (push s.segs.cs (setFlag .TF false (setFlag .IF false (push s.flags s))))

/-- The trap reads the vector-table entry after the pushes. -/
theorem trap_eq (n : Byte) (ret : Word) (s : State) :
    trap n ret s =
      let off := memRead (Config.ivtBase + 4 * n.toNat) 2 (trapPushed ret s)
      let seg := memRead (Config.ivtBase + 4 * n.toNat + 2) 2 off.2
      setSreg .cs (BitVec.ofNat 16 seg.1) (setPc (BitVec.ofNat 16 off.1) seg.2) := by
  simp only [trap, trapPushed, setFlag_segs, push_segs]

theorem controllerOf_trapPushed_quiet (ret : Word) {s : State}
    (h : quiet (segBytes .ss (s.regs.sp - 6) 6 s) s = true) : controllerOf (trapPushed ret s) = controllerOf s := by
  have h1 : quiet (segBytes .ss (s.regs.sp - 2) 2 s) s = true :=
    quiet_mono (segBytes_sub (i := 4) (by bv_omega) (by omega)) h
  refine (controllerOf_push_push_quiet s.segs.cs ret ?_).trans ?_
  · rw [quiet_segBytes_congr (s := s) (by simp) (by simp)]
    exact quiet_mono (segBytes_sub (i := 0) (by simp; bv_omega) (by omega)) h
  · rw [controllerOf_setFlag, controllerOf_setFlag, controllerOf_push_quiet _ h1]

theorem trapPushed_map (ret : Word) (s : State) : (trapPushed ret s).map = s.map := by simp [trapPushed]

/-- A trap whose stack slots and vector-table entry call no device leaves the controller alone. -/
theorem controllerOf_trap_quiet {n : Byte} (ret : Word) {s : State}
    (h : quiet (segBytes .ss (s.regs.sp - 6) 6 s) s = true) (hv : quiet (vectorBytes n) s = true) :
    controllerOf (trap n ret s) = controllerOf s := by
  have hv' : quiet (vectorBytes n) (trapPushed ret s) = true := by rwa [quiet_congr (trapPushed_map ret s)]
  have h0 : (memRead (Config.ivtBase + 4 * n.toNat) 2 (trapPushed ret s)).2 = trapPushed ret s :=
    memRead_vector_of_quiet hv' (i := 0) (by omega)
  have h2 := memRead_vector_of_quiet hv' (i := 2) (by omega)
  simp only [trap_eq, controllerOf_setSreg, controllerOf_setPc, h0, h2]
  exact controllerOf_trapPushed_quiet ret h

/-! ## String elements -/

theorem setReg8_al_si (v : Byte) (s : State) : (setReg8 .al v s).regs.si = s.regs.si := rfl

theorem setReg8_al_di (v : Byte) (s : State) : (setReg8 .al v s).regs.di = s.regs.di := rfl

theorem setReg16_ax_si (v : Word) (s : State) : (setReg16 .ax v s).regs.si = s.regs.si := rfl

theorem setReg16_ax_di (v : Word) (s : State) : (setReg16 .ax v s).regs.di = s.regs.di := rfl

@[simp] theorem lodsOne8_si (src : SReg) (d : Word) (s : State) : (lodsOne8 src d s).regs.si = s.regs.si + d := by
  simp [lodsOne8, setReg8_al_si]

@[simp] theorem lodsOne8_di (src : SReg) (d : Word) (s : State) : (lodsOne8 src d s).regs.di = s.regs.di := by
  simp [lodsOne8, setReg8_al_di]

@[simp] theorem lodsOne16_si (src : SReg) (d : Word) (s : State) : (lodsOne16 src d s).regs.si = s.regs.si + d := by
  simp [lodsOne16, setReg16_ax_si]

@[simp] theorem lodsOne16_di (src : SReg) (d : Word) (s : State) : (lodsOne16 src d s).regs.di = s.regs.di := by
  simp [lodsOne16, setReg16_ax_di]

section
variable {src : SReg} (d : Word) {a : State}

theorem controllerOf_movsOne8_quiet (hs : quiet (segBytes src a.regs.si 1 a) a = true)
    (hd : quiet (segBytes .es a.regs.di 1 a) a = true) : controllerOf (movsOne8 src d a) = controllerOf a := by
  simp [movsOne8, segRead8_of_quiet hs, controllerOf_segWrite8_quiet _ hd]

theorem controllerOf_movsOne16_quiet (hs : quiet (segBytes src a.regs.si 2 a) a = true)
    (hd : quiet (segBytes .es a.regs.di 2 a) a = true) : controllerOf (movsOne16 src d a) = controllerOf a := by
  simp [movsOne16, segRead16_of_quiet hs, controllerOf_segWrite16_quiet _ hd]

theorem controllerOf_cmpsOne8_quiet (hs : quiet (segBytes src a.regs.si 1 a) a = true)
    (hd : quiet (segBytes .es a.regs.di 1 a) a = true) : controllerOf (cmpsOne8 src d a) = controllerOf a := by
  simp [cmpsOne8, segRead8_of_quiet hs, segRead8_of_quiet hd]

theorem controllerOf_cmpsOne16_quiet (hs : quiet (segBytes src a.regs.si 2 a) a = true)
    (hd : quiet (segBytes .es a.regs.di 2 a) a = true) : controllerOf (cmpsOne16 src d a) = controllerOf a := by
  simp [cmpsOne16, segRead16_of_quiet hs, segRead16_of_quiet hd]

theorem controllerOf_stosOne8_quiet (hd : quiet (segBytes .es a.regs.di 1 a) a = true) :
    controllerOf (stosOne8 d a) = controllerOf a := by
  simp [stosOne8, controllerOf_segWrite8_quiet _ hd]

theorem controllerOf_stosOne16_quiet (hd : quiet (segBytes .es a.regs.di 2 a) a = true) :
    controllerOf (stosOne16 d a) = controllerOf a := by
  simp [stosOne16, controllerOf_segWrite16_quiet _ hd]

theorem controllerOf_lodsOne8_quiet (hs : quiet (segBytes src a.regs.si 1 a) a = true) :
    controllerOf (lodsOne8 src d a) = controllerOf a := by
  simp [lodsOne8, segRead8_of_quiet hs]

theorem controllerOf_lodsOne16_quiet (hs : quiet (segBytes src a.regs.si 2 a) a = true) :
    controllerOf (lodsOne16 src d a) = controllerOf a := by
  simp [lodsOne16, segRead16_of_quiet hs]

theorem controllerOf_scasOne8_quiet (hd : quiet (segBytes .es a.regs.di 1 a) a = true) :
    controllerOf (scasOne8 d a) = controllerOf a := by
  simp [scasOne8, segRead8_of_quiet hd]

theorem controllerOf_scasOne16_quiet (hd : quiet (segBytes .es a.regs.di 2 a) a = true) :
    controllerOf (scasOne16 d a) = controllerOf a := by
  simp [scasOne16, segRead16_of_quiet hd]

end

namespace AtElement

variable {s : State} {dsi ddi : Word} {k n : Nat} {a : State}

theorem quiet_destination (h : AtElement s dsi (stringDelta (BitVec.ofNat 16 n) s.flags) k a) (hk : k < elementCount s)
    (hq : quiet (elementBytes n s) s = true) : quiet (segBytes .es a.regs.di n a) a = true :=
  quiet_mono (h.destination hk) (by rwa [quiet_congr h.map])

theorem quiet_source (h : AtElement s (stringDelta (BitVec.ofNat 16 n) s.flags) ddi k a) (hk : k < elementCount s)
    (hq : quiet (sourceBytes n s) s = true) : quiet (segBytes (overridden .ds s) a.regs.si n a) a = true :=
  quiet_mono (h.source hk) (by rwa [quiet_congr h.map])

end AtElement

section
variable {one : State → State} {s : State} {dsi ddi : Word}

/-- A repetition whose elements call no device leaves the controller alone. -/
theorem controllerOf_repeatPlain (hnext : ∀ k a, AtElement s dsi ddi k a → AtElement s dsi ddi (k + 1) (one a))
    (hone : ∀ k a, k < elementCount s → AtElement s dsi ddi k a → controllerOf (one a) = controllerOf a) :
    controllerOf (repeatPlain one s) = controllerOf s := by
  obtain ⟨_, _, _, h⟩ := repeatPlain_indexed (s := s) (one := one)
    (P := fun k a => AtElement s dsi ddi k a ∧ controllerOf a = controllerOf s)
    (fun k a hk h => ⟨hnext k a h.1, (hone k a hk h.1).trans h.2⟩) (fun k a h => ⟨h.1.dec, by simp [h.2]⟩)
    ⟨.start s _ _, rfl⟩
  exact h

theorem controllerOf_repeatCompare (hnext : ∀ k a, AtElement s dsi ddi k a → AtElement s dsi ddi (k + 1) (one a))
    (hone : ∀ k a, k < elementCount s → AtElement s dsi ddi k a → controllerOf (one a) = controllerOf a) :
    controllerOf (repeatCompare one s) = controllerOf s := by
  obtain ⟨_, _, _, h⟩ := repeatCompare_indexed (s := s) (one := one)
    (P := fun k a => AtElement s dsi ddi k a ∧ controllerOf a = controllerOf s)
    (fun k a hk h => ⟨hnext k a h.1, (hone k a hk h.1).trans h.2⟩) (fun k a h => ⟨h.1.dec, by simp [h.2]⟩)
    ⟨.start s _ _, rfl⟩
  exact h

end

/-! ## Actions -/

section
variable {s : State}

theorem controllerOf_aluPlace8_quiet (op : AluOp) {p : Place8} (b : Byte) (h : quiet (placeBytes8 p s) s = true) :
    controllerOf (aluPlace8 op p b s) = controllerOf s := by
  cases op <;>
    simp [aluPlace8, aluWrites, readPlace8_of_quiet h, controllerOf_writePlace8_quiet _ (setFlags_map _ s)
      (setFlags_segs _ s) h]

theorem controllerOf_aluPlace16_quiet (op : AluOp) {p : Place16} (b : Word) (h : quiet (placeBytes16 p s) s = true) :
    controllerOf (aluPlace16 op p b s) = controllerOf s := by
  cases op <;>
    simp [aluPlace16, aluWrites, readPlace16_of_quiet h, controllerOf_writePlace16_quiet _ (setFlags_map _ s)
      (setFlags_segs _ s) h]

theorem controllerOf_aluReg8_quiet (op : AluOp) (reg : Reg8) {p : Place8} (h : quiet (placeBytes8 p s) s = true) :
    controllerOf (aluReg8 op reg p s) = controllerOf s := by
  cases op <;> simp [aluReg8, aluWrites, readPlace8_of_quiet h]

theorem controllerOf_aluReg16_quiet (op : AluOp) (reg : Reg16) {p : Place16} (h : quiet (placeBytes16 p s) s = true) :
    controllerOf (aluReg16 op reg p s) = controllerOf s := by
  cases op <;> simp [aluReg16, aluWrites, readPlace16_of_quiet h]

theorem controllerOf_unaryPlace8_quiet (f : Byte → Word → Byte × Word) {p : Place8}
    (h : quiet (placeBytes8 p s) s = true) : controllerOf (unaryPlace8 f p s) = controllerOf s := by
  simp [unaryPlace8, readPlace8_of_quiet h,
    controllerOf_writePlace8_quiet _ (setFlags_map _ s) (setFlags_segs _ s) h]

theorem controllerOf_unaryPlace16_quiet (f : Word → Word → Word × Word) {p : Place16}
    (h : quiet (placeBytes16 p s) s = true) : controllerOf (unaryPlace16 f p s) = controllerOf s := by
  simp [unaryPlace16, readPlace16_of_quiet h,
    controllerOf_writePlace16_quiet _ (setFlags_map _ s) (setFlags_segs _ s) h]

theorem controllerOf_shiftPlace8_quiet (op : ShiftOp) (raw : Byte) {p : Place8}
    (h : quiet (placeBytes8 p s) s = true) : controllerOf (shiftPlace8 op raw p s) = controllerOf s := by
  simp only [shiftPlace8, readPlace8_of_quiet h]
  split
  · rfl
  · rw [controllerOf_writePlace8_quiet _ (setFlags_map _ s) (setFlags_segs _ s) h, controllerOf_setFlags]

theorem controllerOf_shiftPlace16_quiet (op : ShiftOp) (raw : Byte) {p : Place16}
    (h : quiet (placeBytes16 p s) s = true) : controllerOf (shiftPlace16 op raw p s) = controllerOf s := by
  simp only [shiftPlace16, readPlace16_of_quiet h]
  split
  · rfl
  · rw [controllerOf_writePlace16_quiet _ (setFlags_map _ s) (setFlags_segs _ s) h, controllerOf_setFlags]

theorem controllerOf_pushPlace16_quiet {p : Place16} (h : quiet (placeBytes16 p s) s = true)
    (hs : quiet (segBytes .ss (s.regs.sp - 2) 2 s) s = true) : controllerOf (pushPlace16 p s) = controllerOf s := by
  simp only [pushPlace16, readPlace16_of_quiet h]
  split
  · exact controllerOf_pushSp_quiet hs
  · exact controllerOf_push_quiet _ hs

theorem controllerOf_popPlace16_quiet {p : Place16} (h : quiet (placeBytes16 p s) s = true)
    (hs : quiet (segBytes .ss s.regs.sp 2 s) s = true) : controllerOf (popPlace16 p s) = controllerOf s := by
  rw [popPlace16, controllerOf_writePlace16_quiet _ (pop_map s) (pop_segs s) h, controllerOf_pop_quiet hs]

end

/-- Where no address that an action reads or stores to selects a handler, the controller stays as it is. -/
theorem Action.keepsController (a : Action) (s : State) (hl : quiet (a.loads s) s = true)
    (hs : quiet (a.effects s).stores s = true) : controllerOf (a.run s) = controllerOf s := by
  cases a with
  | alu8 op rm b => exact controllerOf_aluPlace8_quiet op b (rmStore8_eq rm s ▸ hl)
  | alu16 op rm b => exact controllerOf_aluPlace16_quiet op b (rmStore16_eq rm s ▸ hl)
  | aluReg8 op reg rm => exact controllerOf_aluReg8_quiet op reg (rmStore8_eq rm s ▸ hl)
  | aluReg16 op reg rm => exact controllerOf_aluReg16_quiet op reg (rmStore16_eq rm s ▸ hl)
  | unary8 u rm => exact controllerOf_unaryPlace8_quiet _ (rmStore8_eq rm s ▸ hl)
  | unary16 u rm => exact controllerOf_unaryPlace16_quiet _ (rmStore16_eq rm s ▸ hl)
  | shift8 op raw rm => exact controllerOf_shiftPlace8_quiet op raw (rmStore8_eq rm s ▸ hl)
  | shift16 op raw rm => exact controllerOf_shiftPlace16_quiet op raw (rmStore16_eq rm s ▸ hl)
  | test8 rm b =>
    have h : quiet (placeBytes8 (place8 rm s) s) s = true := rmStore8_eq rm s ▸ hl
    simp [Action.run, testPlace8, readPlace8_of_quiet h]
  | test16 rm b =>
    have h : quiet (placeBytes16 (place16 rm s) s) s = true := rmStore16_eq rm s ▸ hl
    simp [Action.run, testPlace16, readPlace16_of_quiet h]
  | not8 rm =>
    have h : quiet (placeBytes8 (place8 rm s) s) s = true := rmStore8_eq rm s ▸ hl
    simp [Action.run, notPlace8, readPlace8_of_quiet h, controllerOf_writePlace8_quiet _ (t := s) rfl rfl h]
  | not16 rm =>
    have h : quiet (placeBytes16 (place16 rm s) s) s = true := rmStore16_eq rm s ▸ hl
    simp [Action.run, notPlace16, readPlace16_of_quiet h, controllerOf_writePlace16_quiet _ (t := s) rfl rfl h]
  | xchg8 rm reg =>
    have h : quiet (placeBytes8 (place8 rm s) s) s = true := rmStore8_eq rm s ▸ hl
    simp [Action.run, xchgPlace8, readPlace8_of_quiet h,
      controllerOf_writePlace8_quiet _ (setReg8_map _ _ s) (setReg8_segs _ _ s) h]
  | xchg16 rm reg =>
    have h : quiet (placeBytes16 (place16 rm s) s) s = true := rmStore16_eq rm s ▸ hl
    simp [Action.run, xchgPlace16, readPlace16_of_quiet h,
      controllerOf_writePlace16_quiet _ (setReg16_map _ _ s) (setReg16_segs _ _ s) h]
  | store8 rm v => exact controllerOf_writePlace8_quiet v rfl rfl (rmStore8_eq rm s ▸ hs)
  | store16 rm v => exact controllerOf_writePlace16_quiet v rfl rfl (rmStore16_eq rm s ▸ hs)
  | load8 reg rm =>
    have h : quiet (placeBytes8 (place8 rm s) s) s = true := rmStore8_eq rm s ▸ hl
    simp [Action.run, loadReg8, readPlace8_of_quiet h]
  | load16 reg rm =>
    have h : quiet (placeBytes16 (place16 rm s) s) s = true := rmStore16_eq rm s ▸ hl
    simp [Action.run, loadReg16, readPlace16_of_quiet h]
  | loadSreg j rm =>
    have h : quiet (placeBytes16 (place16 rm s) s) s = true := rmStore16_eq rm s ▸ hl
    exact (controllerOf_setSreg j _ _).trans (congrArg controllerOf (readPlace16_of_quiet h))
  | jumpRm rm =>
    have h : quiet (placeBytes16 (place16 rm s) s) s = true := rmStore16_eq rm s ▸ hl
    simp [Action.run, jumpNear, readPlace16_of_quiet h]
  | popSreg j => exact (controllerOf_setSreg j _ _).trans (controllerOf_pop_quiet hl)
  | loadFar j reg m =>
    simp [Action.run, Machine.loadFar, readFar_of_quiet hl]
  | push v => exact controllerOf_push_quiet v hs
  | pushRm rm => exact controllerOf_pushPlace16_quiet (rmStore16_eq rm s ▸ hl) hs
  | popRm rm => exact controllerOf_popPlace16_quiet (rmStore16_eq rm s ▸ hs) hl
  | popf | ret => exact controllerOf_pop_quiet hl
  | retPop cnt => exact (controllerOf_setReg16 _ _ _).trans (controllerOf_pop_quiet hl)
  | jumpMem m => simp [Action.run, jumpPointer, Machine.jumpFar, readFar_of_quiet hl]
  | callRel d => exact controllerOf_push_quiet s.pc hs
  | callRm rm =>
    have h : quiet (placeBytes16 (place16 rm s) s) s = true := rmStore16_eq rm s ▸ hl
    simp [Action.run, callNear, readPlace16_of_quiet h, controllerOf_push_quiet _ hs]
  | callFar off seg =>
    exact (controllerOf_setSreg _ _ _).trans (controllerOf_push_push_quiet s.segs.cs s.pc hs)
  | callMem m =>
    simp only [Action.run, callPointer, callFarTo, readFar_of_quiet hl]
    exact (controllerOf_setSreg _ _ _).trans (controllerOf_push_push_quiet s.segs.cs s.pc hs)
  | retf => exact controllerOf_returnFar_quiet hl
  | retfPop cnt => exact (controllerOf_setReg16 _ _ _).trans (controllerOf_returnFar_quiet hl)
  | trap n => exact controllerOf_trap_quiet s.pc hs hl
  | iret => exact controllerOf_trapReturn_quiet hl
  | movs8 =>
    exact controllerOf_repeatPlain (fun _ _ h => h.next (by simp) (by simp) (by simp) (by simp))
      fun _ _ hk h => controllerOf_movsOne8_quiet _ (h.quiet_source (n := 1) hk hl) (h.quiet_destination (n := 1) hk hs)
  | movs16 =>
    exact controllerOf_repeatPlain (fun _ _ h => h.next (by simp) (by simp) (by simp) (by simp))
      fun _ _ hk h => controllerOf_movsOne16_quiet _ (h.quiet_source (n := 2) hk hl) (h.quiet_destination (n := 2) hk hs)
  | cmps8 =>
    have hq := quiet_append.mp hl
    exact controllerOf_repeatCompare (fun _ _ h => h.next (by simp) (by simp) (by simp) (by simp))
      fun _ _ hk h => controllerOf_cmpsOne8_quiet _ (h.quiet_source (n := 1) hk hq.1)
        (h.quiet_destination (n := 1) hk hq.2)
  | cmps16 =>
    have hq := quiet_append.mp hl
    exact controllerOf_repeatCompare (fun _ _ h => h.next (by simp) (by simp) (by simp) (by simp))
      fun _ _ hk h => controllerOf_cmpsOne16_quiet _ (h.quiet_source (n := 2) hk hq.1)
        (h.quiet_destination (n := 2) hk hq.2)
  | stos8 =>
    exact controllerOf_repeatPlain (dsi := 0) (fun _ _ h => h.next (by simp) (by simp) (by simp) (by simp))
      fun _ _ hk h => controllerOf_stosOne8_quiet _ (h.quiet_destination (n := 1) hk hs)
  | stos16 =>
    exact controllerOf_repeatPlain (dsi := 0) (fun _ _ h => h.next (by simp) (by simp) (by simp) (by simp))
      fun _ _ hk h => controllerOf_stosOne16_quiet _ (h.quiet_destination (n := 2) hk hs)
  | lods8 =>
    exact controllerOf_repeatPlain (ddi := 0) (fun _ _ h => h.next (by simp) (by simp) (by simp) (by simp))
      fun _ _ hk h => controllerOf_lodsOne8_quiet _ (h.quiet_source (n := 1) hk hl)
  | lods16 =>
    exact controllerOf_repeatPlain (ddi := 0) (fun _ _ h => h.next (by simp) (by simp) (by simp) (by simp))
      fun _ _ hk h => controllerOf_lodsOne16_quiet _ (h.quiet_source (n := 2) hk hl)
  | scas8 =>
    exact controllerOf_repeatCompare (dsi := 0) (fun _ _ h => h.next (by simp) (by simp) (by simp) (by simp))
      fun _ _ hk h => controllerOf_scasOne8_quiet _ (h.quiet_destination (n := 1) hk hl)
  | scas16 =>
    exact controllerOf_repeatCompare (dsi := 0) (fun _ _ h => h.next (by simp) (by simp) (by simp) (by simp))
      fun _ _ hk h => controllerOf_scasOne16_quiet _ (h.quiet_destination (n := 2) hk hl)
  | set8 | set16 | xchgAX | sahf | putFlag => simp [Action.run]
  | jumpFar | nop | hlt | setOverride | setRepeat => rfl
  | jumpIf taken d => cases taken <;> rfl
  | loopIf taken d => cases taken <;> exact controllerOf_decCx s

/-! ## What no action writes, and what only some do -/

section
variable (s : State)

theorem Action.keepsVector (a : Action) : (a.run s).vector = s.vector := by
  cases a with
  | movs8 | movs16 | stos8 | stos16 | lods8 | lods16 => exact repeatPlain_eq (f := State.vector) (by simp) (by simp) s
  | cmps8 | cmps16 | scas8 | scas16 => exact repeatCompare_eq (f := State.vector) (by simp) (by simp) s
  | _ =>
    simp [Action.run, jumpNear, jumpPointer, callNear, callPointer, callFarTo, loadReg8, loadReg16, Machine.loadSreg,
      Machine.loadFar]

theorem Action.keepsMap (a : Action) : (a.run s).map = s.map := (a.stores s).1

theorem Action.keepsLatchInt (a : Action) : (a.run s).latchInt = s.latchInt := by
  cases a with
  | movs8 | movs16 | stos8 | stos16 | lods8 | lods16 => exact repeatPlain_eq (f := State.latchInt) (by simp) (by simp) s
  | cmps8 | cmps16 | scas8 | scas16 => exact repeatCompare_eq (f := State.latchInt) (by simp) (by simp) s
  | _ =>
    simp [Action.run, jumpNear, jumpPointer, callNear, callPointer, callFarTo, loadReg8, loadReg16, Machine.loadSreg,
      Machine.loadFar]

theorem Action.keepsLatchNmi (a : Action) : (a.run s).latchNmi = s.latchNmi := by
  cases a with
  | movs8 | movs16 | stos8 | stos16 | lods8 | lods16 => exact repeatPlain_eq (f := State.latchNmi) (by simp) (by simp) s
  | cmps8 | cmps16 | scas8 | scas16 => exact repeatCompare_eq (f := State.latchNmi) (by simp) (by simp) s
  | _ =>
    simp [Action.run, jumpNear, jumpPointer, callNear, callPointer, callFarTo, loadReg8, loadReg16, Machine.loadSreg,
      Machine.loadFar]

theorem Action.keepsTrace (a : Action) : (a.run s).trace = s.trace := by
  cases a with
  | movs8 | movs16 | stos8 | stos16 | lods8 | lods16 => exact repeatPlain_eq (f := State.trace) (by simp) (by simp) s
  | cmps8 | cmps16 | scas8 | scas16 => exact repeatCompare_eq (f := State.trace) (by simp) (by simp) s
  | _ =>
    simp [Action.run, jumpNear, jumpPointer, callNear, callPointer, callFarTo, loadReg8, loadReg16, Machine.loadSreg,
      Machine.loadFar]

theorem Action.sameOutside (a : Action) : SameOutside s (a.run s) :=
  ⟨a.keepsVector s, ⟨a.keepsMap s, a.keepsLatchInt s, a.keepsLatchNmi s⟩, a.keepsTrace s⟩

theorem Action.keepsHalted (a : Action) (h : a ≠ .hlt) : (a.run s).halted = s.halted := by
  cases a with
  | hlt => exact absurd rfl h
  | movs8 | movs16 | stos8 | stos16 | lods8 | lods16 => exact repeatPlain_eq (f := State.halted) (by simp) (by simp) s
  | cmps8 | cmps16 | scas8 | scas16 => exact repeatCompare_eq (f := State.halted) (by simp) (by simp) s
  | _ =>
    simp [Action.run, jumpNear, jumpPointer, callNear, callPointer, callFarTo, loadReg8, loadReg16, Machine.loadSreg,
      Machine.loadFar]

/-- The window opens only where the action names it (10_state R35). -/
theorem Action.keepsNoint (a : Action) (h : (a.effects s).window = false) : (a.run s).noint = s.noint := by
  cases a with
  | loadSreg | popSreg => cases h
  | movs8 | movs16 | stos8 | stos16 | lods8 | lods16 => exact repeatPlain_eq (f := State.noint) (by simp) (by simp) s
  | cmps8 | cmps16 | scas8 | scas16 => exact repeatCompare_eq (f := State.noint) (by simp) (by simp) s
  | _ => simp [Action.run, jumpNear, jumpPointer, callNear, callPointer, callFarTo, loadReg8, loadReg16, Machine.loadFar]

theorem Action.keepsSegov (a : Action) (h : ∀ j, a ≠ .setOverride j) : (a.run s).segov = s.segov := by
  cases a with
  | setOverride j => exact absurd rfl (h j)
  | movs8 | movs16 | stos8 | stos16 | lods8 | lods16 => exact repeatPlain_eq (f := State.segov) (by simp) (by simp) s
  | cmps8 | cmps16 | scas8 | scas16 => exact repeatCompare_eq (f := State.segov) (by simp) (by simp) s
  | _ =>
    simp [Action.run, jumpNear, jumpPointer, callNear, callPointer, callFarTo, loadReg8, loadReg16, Machine.loadSreg,
      Machine.loadFar]

theorem Action.keepsRep (a : Action) (h : ∀ r, a ≠ .setRepeat r) : (a.run s).rep = s.rep := by
  cases a with
  | setRepeat r => exact absurd rfl (h r)
  | movs8 | movs16 | stos8 | stos16 | lods8 | lods16 => exact repeatPlain_eq (f := State.rep) (by simp) (by simp) s
  | cmps8 | cmps16 | scas8 | scas16 => exact repeatCompare_eq (f := State.rep) (by simp) (by simp) s
  | _ =>
    simp [Action.run, jumpNear, jumpPointer, callNear, callPointer, callFarTo, loadReg8, loadReg16, Machine.loadSreg,
      Machine.loadFar]

end

/-- Settles O4: each action writes the control state only where its effects say so, and the controller only through a
device. -/
theorem controlStateFrame : Obligations.ControlStateFrame := by
  intro i s t h
  obtain ⟨a, ha, rfl⟩ := action_of_next h
  rw [ha.effects, ha.loads]
  refine ⟨a.sameOutside s, fun hi => a.keepsHalted s fun e => hi (ha.halts e), a.keepsNoint s, fun hp => ⟨?_, ?_⟩,
    fun hq => ?_⟩
  · exact a.keepsSegov s fun j e => by simp [ha.isPrefix (.inl ⟨j, e⟩)] at hp
  · exact a.keepsRep s fun r e => by simp [ha.isPrefix (.inr ⟨r, e⟩)] at hp
  · obtain ⟨hl, hs⟩ := quiet_append.mp hq
    exact (sameController_iff _ _).mpr (a.keepsController s hl hs)

end Sys2Proof.Proofs
end

section
/-! What a whole step keeps: from the actions through the items of an instruction, its fetch and its retirement, to the
InterruptCheck and a requested reset. -/

namespace Sys2Proof.Proofs

open Sys2Proof Sys2Proof.Machine Sys2Proof.Laws

/-! ## Memory stays in canonical form -/

/-- Every action keeps the canonical form of memory. -/
theorem Action.memWf (a : Action) {s : State} (h : Memory.wf s.mem = true) : Memory.wf (a.run s).mem = true := by
  cases a with
  | alu8 op rm b => exact aluPlace8_mem_wf op _ b h
  | alu16 op rm b => exact aluPlace16_mem_wf op _ b h
  | unary8 u rm => exact unaryPlace8_mem_wf _ _ h
  | unary16 u rm => exact unaryPlace16_mem_wf _ _ h
  | shift8 op raw rm => exact shiftPlace8_mem_wf op raw _ h
  | shift16 op raw rm => exact shiftPlace16_mem_wf op raw _ h
  | not8 rm => exact notPlace8_mem_wf _ h
  | not16 rm => exact notPlace16_mem_wf _ h
  | xchg8 rm reg => exact xchgPlace8_mem_wf _ reg h
  | xchg16 rm reg => exact xchgPlace16_mem_wf _ reg h
  | store8 rm v => exact writePlace8_mem_wf _ v h
  | store16 rm v => exact writePlace16_mem_wf _ v h
  | push v => exact push_mem_wf v h
  | pushRm rm => exact pushPlace16_mem_wf _ h
  | popRm rm => exact popPlace16_mem_wf _ h
  | callRel d => simpa [Action.run] using push_mem_wf s.pc h
  | callRm rm => simpa [Action.run, callNear] using push_mem_wf s.pc (s := (readPlace16 (place16 rm s) s).2) (by simpa using h)
  | callFar off seg => simpa [Action.run, callFarTo] using push_mem_wf s.pc (push_mem_wf s.segs.cs h)
  | callMem m =>
    have hr : Memory.wf (readFar m s).2.mem = true := by simpa using h
    simpa [Action.run, callPointer, callFarTo] using push_mem_wf s.pc (push_mem_wf s.segs.cs hr)
  | trap n => exact trap_mem_wf n s.pc h
  | movs8 =>
    exact repeatPlain_keeps (P := fun a => Memory.wf a.mem = true) (fun _ ha => movsOne8_mem_wf _ _ ha)
      (fun _ ha => by simpa using ha) h
  | movs16 =>
    exact repeatPlain_keeps (P := fun a => Memory.wf a.mem = true) (fun _ ha => movsOne16_mem_wf _ _ ha)
      (fun _ ha => by simpa using ha) h
  | stos8 =>
    exact repeatPlain_keeps (P := fun a => Memory.wf a.mem = true) (fun _ ha => stosOne8_mem_wf _ ha)
      (fun _ ha => by simpa using ha) h
  | stos16 =>
    exact repeatPlain_keeps (P := fun a => Memory.wf a.mem = true) (fun _ ha => stosOne16_mem_wf _ ha)
      (fun _ ha => by simpa using ha) h
  | aluReg8 | aluReg16 => simpa [Action.run] using h
  | test8 | test16 | load8 | load16 | set8 | set16 | xchgAX | loadSreg | popSreg | loadFar | popf | sahf
  | putFlag | jumpIf | loopIf | jumpFar | jumpRm | jumpMem | ret | retPop | retf | retfPop | iret | lods8 | lods16
  | cmps8 | cmps16 | scas8 | scas16 | nop | hlt | setOverride | setRepeat =>
    rwa [Action.mem_of_no_stores _ s rfl]

/-! ## The parts of a step -/

/-- What every part of a step keeps: the fixed bits of FLAGS, the canonical form of memory, MAP. -/
structure Keeps (s t : State) : Prop where
  flags : FlagsFixed s.flags → FlagsFixed t.flags
  mem : Memory.wf s.mem = true → Memory.wf t.mem = true
  map : t.map = s.map

/-- The part keeps the trace too. -/
structure KeepsTrace (s t : State) : Prop extends Keeps s t where
  trace : t.trace = s.trace

theorem KeepsTrace.refl (s : State) : KeepsTrace s s := ⟨⟨id, id, rfl⟩, rfl⟩

theorem KeepsTrace.trans {s t u : State} (h : KeepsTrace s t) (k : KeepsTrace t u) : KeepsTrace s u :=
  ⟨⟨k.flags ∘ h.flags, k.mem ∘ h.mem, k.map.trans h.map⟩, k.trace.trans h.trace⟩

/-- A part that changes none of these fields. -/
theorem KeepsTrace.of_eq {s t : State} (hf : t.flags = s.flags) (hm : t.mem = s.mem) (hp : t.map = s.map)
    (ht : t.trace = s.trace) : KeepsTrace s t := ⟨⟨fun h => hf ▸ h, fun h => hm ▸ h, hp⟩, ht⟩

theorem keepsTrace_exec {i : Instr} {s t : State} (h : exec i s = .next t) : KeepsTrace s t := by
  obtain ⟨a, _, rfl⟩ := action_of_next h
  exact ⟨⟨a.flagsFixed, a.memWf, a.keepsMap s⟩, a.keepsTrace s⟩

/-- Items run one after another never stop. -/
theorem runItems_next (items : List Instr) (s : State) : ∃ t, runItems items s = .next t ∧ KeepsTrace s t := by
  induction items generalizing s with
  | nil => exact ⟨s, rfl, .refl s⟩
  | cons i rest ih =>
    obtain ⟨t, ht⟩ := exec_next i s
    obtain ⟨u, hu, hk⟩ := ih t
    exact ⟨u, by simp only [runItems, ht, hu], (keepsTrace_exec ht).trans hk⟩

theorem keepsTrace_fetch8 (s : State) : KeepsTrace s (fetch8 s).2 :=
  .of_eq (by simp [fetch8]) (by simp [fetch8]) (by simp [fetch8]) (by simp [fetch8])

theorem keepsTrace_fetchFrom (fuel : Nat) (bytes : List Byte) (s : State) : KeepsTrace s (fetchFrom fuel bytes s).2 := by
  induction fuel generalizing bytes s with
  | zero => exact .refl s
  | succ fuel ih =>
    simp only [fetchFrom]
    split
    · exact (keepsTrace_fetch8 s).trans (ih _ _)
    · exact keepsTrace_fetch8 s
    · exact keepsTrace_fetch8 s

theorem keepsTrace_trap (n : Byte) (ret : Word) (s : State) : KeepsTrace s (trap n ret s) :=
  ⟨⟨fun h => by simpa using flagsFixed_putFlag .TF false (flagsFixed_putFlag .IF false h), trap_mem_wf n ret,
    trap_map n ret s⟩, trap_trace n ret s⟩

theorem keepsTrace_clearPrefixes (s : State) : KeepsTrace s (clearPrefixes s) := .of_eq rfl rfl rfl rfl

theorem keepsTrace_setPc (v : Word) (s : State) : KeepsTrace s (setPc v s) := .of_eq rfl rfl rfl rfl

/-- The instruction retires from a state that kept all of this, with its hook event last (60_exceptions R339). -/
theorem retired_eq (s : State) : ∃ t, retired s = retire (phys s.segs.cs s.pc) t ∧ KeepsTrace s t := by
  have hf : KeepsTrace s (fetchInstruction (clearPrefixes s)).2 :=
    (keepsTrace_clearPrefixes s).trans (keepsTrace_fetchFrom _ _ _)
  cases hd : (fetchInstruction (clearPrefixes s)).1 with
  | none =>
    exact ⟨illegalOpcode s.pc (fetchInstruction (clearPrefixes s)).2, by simp only [retired, instruction, hd],
      hf.trans ((keepsTrace_setPc _ _).trans (keepsTrace_trap _ _ _))⟩
  | some d =>
    obtain ⟨t, ht, hk⟩ := runItems_next (d.prefixes ++ [d.instr]) (fetchInstruction (clearPrefixes s)).2
    exact ⟨t, by simp only [retired, instruction, hd, ht], hf.trans hk⟩

/-- The state an NMI's trap is entered from: pending cleared unless the line is level-latched and still 1, VECTOR written,
the halt ended (60_exceptions R328). -/
def nmiEntry (s : State) : State :=
  { (if s.latchNmi = .edge ∨ s.lineNmi = false then setPendingNmi false s else s) with
    vector := nmiVector, halted := false }

theorem nmiEntry_eq (s : State) : nmiEntry s = { s with
    vector := nmiVector
    halted := false
    pending := if s.latchNmi = .edge ∨ s.lineNmi = false then s.pending &&& 1 else s.pending } := by
  unfold nmiEntry
  split <;> rfl

theorem acceptNmi_eq (s : State) : acceptNmi s = trap nmiVector s.pc (nmiEntry s) := by
  unfold acceptNmi nmiEntry
  split <;> rfl

/-- The state an INT's trap is entered from: after `Ack()`, in the same way (60_exceptions R327, R328). -/
def intEntry (s : State) : State :=
  { (callDevice .ack s).2 with
    vector := (callDevice .ack s).1
    halted := false
    pending := if s.latchInt = .edge ∨ (callDevice .ack s).2.lineInt = false then (callDevice .ack s).2.pending &&& 2
      else (callDevice .ack s).2.pending }

theorem acceptInt_eq (s : State) : acceptInt s = trap (callDevice .ack s).1 s.pc (intEntry s) := by
  unfold acceptInt intEntry
  simp only [callDevice_latchInt]
  split
  · simp only [setPendingInt, callDevice_pc]; rfl
  · simp only [callDevice_pc]

theorem keepsTrace_acceptNmi (s : State) : KeepsTrace s (acceptNmi s) := by
  have h : KeepsTrace s (nmiEntry s) :=
    .of_eq (by simp [nmiEntry_eq]) (by simp [nmiEntry_eq]) (by simp [nmiEntry_eq]) (by simp [nmiEntry_eq])
  rw [acceptNmi_eq]
  exact h.trans (keepsTrace_trap _ _ _)

theorem keepsTrace_acceptInt (s : State) : KeepsTrace s (acceptInt s) := by
  have h : KeepsTrace s (intEntry s) :=
    .of_eq (by simp [intEntry]) (by simp [intEntry]) (by simp [intEntry]) (by simp [intEntry])
  rw [acceptInt_eq]
  exact h.trans (keepsTrace_trap _ _ _)

theorem keepsTrace_interruptCheck (s : State) : KeepsTrace s (interruptCheck s).2 := by
  unfold interruptCheck
  split
  · exact .of_eq rfl rfl rfl rfl
  · split
    · exact keepsTrace_acceptNmi s
    · split
      · exact keepsTrace_acceptInt s
      · exact .refl s

theorem flagsFixed_reset : FlagsFixed flagsReset := by decide

theorem keepsTrace_applyReset (s : State) : KeepsTrace s (applyReset s) := ⟨⟨fun _ => flagsFixed_reset, id, rfl⟩, rfl⟩

theorem keepsTrace_checkAndSettle (s : State) : KeepsTrace s (checkAndSettle s).2 := by
  refine (keepsTrace_interruptCheck s).trans ?_
  simp only [checkAndSettle, settleReset]
  split
  · exact keepsTrace_applyReset _
  · exact .refl _

theorem keepsTrace_boundary (s : State) : KeepsTrace s (boundary s).2 := by
  unfold boundary
  split
  · exact keepsTrace_applyReset s
  · exact keepsTrace_checkAndSettle s

/-! ## What is left over after a step -/

theorem applyReset_settled (s : State) : (applyReset s).Settled := ⟨rfl, rfl, rfl, rfl⟩

/-- The InterruptCheck closes the window and leaves the prefix state alone. -/
theorem interruptCheck_window (s : State) :
    (interruptCheck s).2.noint = false ∧ (interruptCheck s).2.segov = s.segov ∧ (interruptCheck s).2.rep = s.rep := by
  unfold interruptCheck
  split
  · exact ⟨rfl, rfl, rfl⟩
  · next hn =>
    have hn' : s.noint = false := by simpa using hn
    split
    · simp [acceptNmi_eq, nmiEntry_eq, hn']
    · split
      · simp [acceptInt_eq, intEntry, hn']
      · exact ⟨hn', rfl, rfl⟩

theorem checkAndSettle_settled {s : State} (ho : s.segov = none) (hr : s.rep = none) : (checkAndSettle s).2.Settled := by
  obtain ⟨hn, ho', hr'⟩ := interruptCheck_window s
  simp only [checkAndSettle, settleReset]
  split
  · exact applyReset_settled _
  · next hq => exact ⟨ho'.trans ho, hr'.trans hr, hn, by simpa using hq⟩

theorem boundary_settled {s : State} (ho : s.segov = none) (hr : s.rep = none) : (boundary s).2.Settled := by
  unfold boundary
  split
  · exact applyReset_settled s
  · exact checkAndSettle_settled ho hr

/-! ## The step -/

/-- A step of a halted core is its InterruptCheck and a requested reset. -/
theorem step_of_halted {s : State} (hm : mapWf s.map = true) (hh : s.halted = true) :
    step s = .next (checkAndSettle s).2 := by simp [step, onePass, hm, hh]

/-- A step of a running core is the instruction, retired, and the end of the pass. -/
theorem step_of_running {s : State} (hm : mapWf s.map = true) (hh : s.halted = false) :
    step s = .next (boundary (retired s)).2 := by simp [step, onePass, hm, hh, instruction_next]

/-- An ill-formed MAP is refused (20_memory R52). -/
theorem step_of_illFormed {s : State} (hm : mapWf s.map = false) : step s = .refused .illFormedMap := by
  simp [step, onePass, hm]

theorem mapWf_of_step {s t : State} (h : step s = .next t) : mapWf s.map = true := by
  cases hm : mapWf s.map with
  | true => rfl
  | false => rw [step_of_illFormed hm] at h; cases h

/-- What a step keeps, and its hook event. -/
theorem step_keeps {s t : State} (h : step s = .next t) :
    Keeps s t ∧ t.trace = if s.halted = true then s.trace else s.trace ++ [phys s.segs.cs s.pc] := by
  have hm := mapWf_of_step h
  cases hh : s.halted with
  | true =>
    rw [step_of_halted hm hh] at h
    injection h with h
    subst h
    have hk := keepsTrace_checkAndSettle s
    exact ⟨hk.toKeeps, by simpa using hk.trace⟩
  | false =>
    rw [step_of_running hm hh] at h
    injection h with h
    subst h
    obtain ⟨u, hu, hk⟩ := retired_eq s
    have hb := keepsTrace_boundary (retired s)
    rw [hu] at hb ⊢
    exact ⟨⟨hb.flags ∘ hk.flags, hb.mem ∘ hk.mem, hb.map.trans hk.map⟩, by
      rw [hb.trace]; simp [retire, hk.trace]⟩

/-- Nothing of an instruction is left after a step. -/
theorem step_settled {s t : State} (hs : s.Settled) (h : step s = .next t) : t.Settled := by
  have hm := mapWf_of_step h
  obtain ⟨ho, hr, _, _⟩ := hs
  cases hh : s.halted with
  | true =>
    rw [step_of_halted hm hh] at h
    injection h with h
    exact h ▸ checkAndSettle_settled ho hr
  | false =>
    rw [step_of_running hm hh] at h
    injection h with h
    obtain ⟨u, hu, _⟩ := retired_eq s
    exact h ▸ boundary_settled (by rw [hu]; rfl) (by rw [hu]; rfl)

/-- Settles O47: each part of the step keeps FLAGS and memory in form, and its end leaves nothing over. -/
theorem stepKeepsInvariant : Obligations.StepKeepsInvariant := by
  rintro s t ⟨hf, hm, hs⟩ h
  have hk := (step_keeps h).1
  exact ⟨hk.flags hf, hk.mem hm, step_settled hs h⟩

/-- Settles O49: only the retirement of an instruction appends to the trace. -/
theorem stepRecordsHook : Obligations.StepRecordsHook := fun _ _ h => (step_keeps h).2

/-! ## Refusal -/

theorem regionWf_iff (d : Region) : regionWf d = true ↔
    d.start.toNat ≤ d.last.toNat ∧ d.start &&& d.mirror = 0 ∧ d.last &&& d.mirror = 0 := by
  simp [regionWf, BitVec.le_def, and_assoc]

theorem mapWf_iff (map : List Region) : mapWf map = true ↔
    ∀ d ∈ map, d.start.toNat ≤ d.last.toNat ∧ d.start &&& d.mirror = 0 ∧ d.last &&& d.mirror = 0 := by
  simp only [mapWf, List.all_eq_true, regionWf_iff]

/-- With a well-formed MAP there is a next state. -/
theorem step_next {s : State} (hm : mapWf s.map = true) : ∃ t, step s = .next t := by
  cases hh : s.halted with
  | true => exact ⟨_, step_of_halted hm hh⟩
  | false => exact ⟨_, step_of_running hm hh⟩

/-- Settles O46: `onePass` refuses an ill-formed MAP first, and every instruction has a next state. -/
theorem stepRefusesOnlyIllFormedMap : Obligations.StepRefusesOnlyIllFormedMap := by
  refine ⟨fun s => ⟨fun hw => ?_, fun hw => ?_⟩, fun s map => ⟨fun hw => ?_, fun hw => ?_⟩⟩
  · obtain ⟨t, ht⟩ := step_next ((mapWf_iff _).mpr hw)
    exact ⟨t, ht, (step_keeps ht).1.map⟩
  · exact step_of_illFormed (Bool.eq_false_iff.mpr fun h => hw ((mapWf_iff _).mp h))
  · simp [setMap, (mapWf_iff _).mpr hw]
  · have hm : mapWf map = false := Bool.eq_false_iff.mpr fun h => hw ((mapWf_iff _).mp h)
    simp [setMap, hm]

end Sys2Proof.Proofs
end

section
/-! The two-operand and one-operand operations: their forms run one shared operation, and its result and flags are told on
numbers. -/

namespace Sys2Proof.Proofs

open Sys2Proof Sys2Proof.Machine Sys2Proof.Laws

/-! ## The nine forms of a two-operand operation (41_arithmetic R173) -/

/-- The forms of each operation. -/
def aluForms : AluOp → AluForms
  | .add => addForms | .or => orForms | .adc => adcForms | .sbb => sbbForms
  | .and => andForms | .sub => subForms | .xor => xorForms | .cmp => cmpForms

/-- The nine forms run the operation `op`. -/
structure RunAlu (op : AluOp) (forms : AluForms) : Prop where
  ebGb : ∀ rm reg s, exec (forms.ebGb rm reg) s = .next (aluPlace8 op (place8 rm s) (s.reg8 reg) s)
  ewGw : ∀ rm reg s, exec (forms.ewGw rm reg) s = .next (aluPlace16 op (place16 rm s) (s.reg16 reg) s)
  gbEb : ∀ reg rm s, exec (forms.gbEb reg rm) s = .next (aluReg8 op reg (place8 rm s) s)
  gwEw : ∀ reg rm s, exec (forms.gwEw reg rm) s = .next (aluReg16 op reg (place16 rm s) s)
  alIb : ∀ imm s, exec (forms.alIb imm) s = .next (aluPlace8 op (.reg .al) imm s)
  axIw : ∀ imm s, exec (forms.axIw imm) s = .next (aluPlace16 op (.reg .ax) imm s)
  ebIb : ∀ rm imm s, exec (forms.ebIb rm imm) s = .next (aluPlace8 op (place8 rm s) imm s)
  ewIw : ∀ rm imm s, exec (forms.ewIw rm imm) s = .next (aluPlace16 op (place16 rm s) imm s)
  ewIbs : ∀ rm imm s, exec (forms.ewIbs rm imm) s = .next (aluPlace16 op (place16 rm s) (sext16 imm) s)

theorem runAlu (op : AluOp) : RunAlu op (aluForms op) := by
  cases op <;> exact ⟨fun _ _ _ => rfl, fun _ _ _ => rfl, fun _ _ _ => rfl, fun _ _ _ => rfl, fun _ _ => rfl,
    fun _ _ => rfl, fun _ _ _ => rfl, fun _ _ _ => rfl, fun _ _ _ => rfl⟩

/-- The sign-extended byte, on numbers. -/
theorem sext16_eq_ofInt (b : Byte) : sext16 b = BitVec.ofInt 16 b.toInt := rfl

section
variable {op : AluOp}

theorem aluPlace8_writes (h : aluWrites op = true) (p : Place8) (b : Byte) (s : State) :
    aluPlace8 op p b s = writePlace8 p (aluOp op (readPlace8 p s).1 b s.flags).1
      (setFlags (aluOp op (readPlace8 p s).1 b s.flags).2 (readPlace8 p s).2) := by simp [aluPlace8, h]

theorem aluPlace16_writes (h : aluWrites op = true) (p : Place16) (b : Word) (s : State) :
    aluPlace16 op p b s = writePlace16 p (aluOp op (readPlace16 p s).1 b s.flags).1
      (setFlags (aluOp op (readPlace16 p s).1 b s.flags).2 (readPlace16 p s).2) := by simp [aluPlace16, h]

theorem aluReg8_writes (h : aluWrites op = true) (reg : Reg8) (p : Place8) (s : State) :
    aluReg8 op reg p s = setReg8 reg (aluOp op (s.reg8 reg) (readPlace8 p s).1 s.flags).1
      (setFlags (aluOp op (s.reg8 reg) (readPlace8 p s).1 s.flags).2 (readPlace8 p s).2) := by simp [aluReg8, h]

theorem aluReg16_writes (h : aluWrites op = true) (reg : Reg16) (p : Place16) (s : State) :
    aluReg16 op reg p s = setReg16 reg (aluOp op (s.reg16 reg) (readPlace16 p s).1 s.flags).1
      (setFlags (aluOp op (s.reg16 reg) (readPlace16 p s).1 s.flags).2 (readPlace16 p s).2) := by simp [aluReg16, h]

/-- All forms of an operation that writes its result, from what the operation makes of bytes and of words. -/
theorem aluRuns_of {P : TwoOperand} (h : aluWrites op = true)
    (h8 : ∀ (a b : Byte) (f : Word), P a b f (aluOp op a b f).1 (aluOp op a b f).2)
    (h16 : ∀ (a b : Word) (f : Word), P a b f (aluOp op a b f).1 (aluOp op a b f).2) : AluRuns (aluForms op) P := by
  have hr := runAlu op
  intro s
  refine ⟨fun rm reg => ⟨_, _, ?_, h8 _ _ _⟩, fun rm reg => ⟨_, _, ?_, h16 _ _ _⟩, fun reg rm => ⟨_, _, ?_, h8 _ _ _⟩,
    fun reg rm => ⟨_, _, ?_, h16 _ _ _⟩, fun imm => ⟨_, _, ?_, h8 _ _ _⟩, fun imm => ⟨_, _, ?_, h16 _ _ _⟩,
    fun rm imm => ⟨_, _, ?_, h8 _ _ _⟩, fun rm imm => ⟨_, _, ?_, h16 _ _ _⟩, fun rm imm => ⟨_, _, ?_, h16 _ _ _⟩⟩
  · rw [hr.ebGb, aluPlace8_writes h]; rfl
  · rw [hr.ewGw, aluPlace16_writes h]; rfl
  · rw [hr.gbEb, aluReg8_writes h]; rfl
  · rw [hr.gwEw, aluReg16_writes h]; rfl
  · rw [hr.alIb, aluPlace8_writes h]; rfl
  · rw [hr.axIw, aluPlace16_writes h]; rfl
  · rw [hr.ebIb, aluPlace8_writes h]; rfl
  · rw [hr.ewIw, aluPlace16_writes h]; rfl
  · rw [hr.ewIbs, aluPlace16_writes h, sext16_eq_ofInt]; rfl

end

theorem aluPlace8_cmp (p : Place8) (b : Byte) (s : State) :
    aluPlace8 .cmp p b s = setFlags (subOp (readPlace8 p s).1 b false s.flags).2 (readPlace8 p s).2 := by
  simp [aluPlace8, aluWrites, aluOp]

theorem aluPlace16_cmp (p : Place16) (b : Word) (s : State) :
    aluPlace16 .cmp p b s = setFlags (subOp (readPlace16 p s).1 b false s.flags).2 (readPlace16 p s).2 := by
  simp [aluPlace16, aluWrites, aluOp]

theorem aluReg8_cmp (reg : Reg8) (p : Place8) (s : State) :
    aluReg8 .cmp reg p s = setFlags (subOp (s.reg8 reg) (readPlace8 p s).1 false s.flags).2 (readPlace8 p s).2 := by
  simp [aluReg8, aluWrites, aluOp]

theorem aluReg16_cmp (reg : Reg16) (p : Place16) (s : State) :
    aluReg16 .cmp reg p s = setFlags (subOp (s.reg16 reg) (readPlace16 p s).1 false s.flags).2 (readPlace16 p s).2 := by
  simp [aluReg16, aluWrites, aluOp]

/-- All forms of CMP, from what the subtraction makes of bytes and of words (41_arithmetic R178). -/
theorem compareRuns_of {P : TwoOperand}
    (h8 : ∀ (a b : Byte) (f : Word), P a b f (subOp a b false f).1 (subOp a b false f).2)
    (h16 : ∀ (a b : Word) (f : Word), P a b f (subOp a b false f).1 (subOp a b false f).2) :
    CompareRuns cmpForms P := by
  have hr : RunAlu .cmp cmpForms := runAlu .cmp
  intro s
  refine ⟨fun rm reg => ⟨_, _, ?_, h8 _ _ _⟩, fun rm reg => ⟨_, _, ?_, h16 _ _ _⟩, fun reg rm => ⟨_, _, ?_, h8 _ _ _⟩,
    fun reg rm => ⟨_, _, ?_, h16 _ _ _⟩, fun imm => ⟨_, _, ?_, h8 _ _ _⟩, fun imm => ⟨_, _, ?_, h16 _ _ _⟩,
    fun rm imm => ⟨_, _, ?_, h8 _ _ _⟩, fun rm imm => ⟨_, _, ?_, h16 _ _ _⟩, fun rm imm => ⟨_, _, ?_, h16 _ _ _⟩⟩
  · rw [hr.ebGb, aluPlace8_cmp]; rfl
  · rw [hr.ewGw, aluPlace16_cmp]; rfl
  · rw [hr.gbEb, aluReg8_cmp]; rfl
  · rw [hr.gwEw, aluReg16_cmp]; rfl
  · rw [hr.alIb, aluPlace8_cmp]; rfl
  · rw [hr.axIw, aluPlace16_cmp]; rfl
  · rw [hr.ebIb, aluPlace8_cmp]; rfl
  · rw [hr.ewIw, aluPlace16_cmp]; rfl
  · rw [hr.ewIbs, aluPlace16_cmp, sext16_eq_ofInt]; rfl

/-! ## Addition and subtraction -/

/-- Settles O12: `addOp` gives the exact sum and its flags at both widths, and each of the nine forms is one run of it. -/
theorem additionResults : Obligations.AdditionResults :=
  ⟨aluRuns_of (op := .add) rfl (fun a b f => adds_addOp (.inl rfl) false a b f)
      (fun a b f => adds_addOp (.inr rfl) false a b f),
    aluRuns_of (op := .adc) rfl (fun a b f => adds_addOp (.inl rfl) _ a b f) (fun a b f => adds_addOp (.inr rfl) _ a b f)⟩

/-- Settles O13: as O12, with the exact difference of `subOp`. -/
theorem subtractionResults : Obligations.SubtractionResults :=
  ⟨aluRuns_of (op := .sub) rfl (fun a b f => subtracts_subOp (.inl rfl) false a b f)
      (fun a b f => subtracts_subOp (.inr rfl) false a b f),
    aluRuns_of (op := .sbb) rfl (fun a b f => subtracts_subOp (.inl rfl) _ a b f)
      (fun a b f => subtracts_subOp (.inr rfl) _ a b f)⟩

/-! ## Comparison -/

section
variable {w : Nat} {a b r : BitVec w} {f g : Word}

/-- ZF after a subtraction: the operands are equal. -/
theorem zero_of_subtracts (hw : w = 8 ∨ w = 16) (h : Subtracts false a b f r g) : getFlag .ZF g = true ↔ a = b := by
  have hv := h.1.value
  have ha := a.isLt
  have hb := b.isLt
  rw [h.1.result.zero, decide_eq_true_eq, ← BitVec.toNat_inj]
  rcases hw with rfl | rfl <;> norm_num at * <;> omega

/-- CF after a subtraction: the operands in order as unsigned numbers. -/
theorem carry_of_subtracts (h : Subtracts false a b f r g) : getFlag .CF g = true ↔ a.toNat < b.toNat := by
  rw [h.2.1, decide_eq_true_eq]
  simp

/-- SF and OF after a subtraction: the operands in order as signed numbers. -/
theorem signed_of_subtracts (hw : w = 8 ∨ w = 16) (h : Subtracts false a b f r g) :
    getFlag .SF g ≠ getFlag .OF g ↔ a.toInt < b.toInt := by
  have hv := h.1.value
  have ho := h.1.overflow
  have ha := a.isLt
  have hb := b.isLt
  have hr := r.isLt
  rw [h.1.result.sign]
  by_cases hof : getFlag .OF g = true
  · have hout := ho.mp hof
    rw [hof, ne_eq, decide_eq_true_eq]
    simp only [outsideRange, BitVec.toInt_eq_toNat_cond] at *
    rcases hw with rfl | rfl <;> norm_num at * <;> split at * <;> split at * <;> split at * <;> omega
  · have hin := mt ho.mpr hof
    rw [Bool.not_eq_true] at hof
    rw [hof, ne_eq, decide_eq_false_iff_not, not_not]
    simp only [outsideRange, BitVec.toInt_eq_toNat_cond] at *
    rcases hw with rfl | rfl <;> norm_num at * <;> split at * <;> split at * <;> split at * <;> omega

end

/-- Settles O14: the forms of CMP run `subOp` and write FLAGS alone; the order of the operands is read off the exact
difference. -/
theorem compareResults : Obligations.CompareResults := by
  refine compareRuns_of (fun a b f => ?_) (fun a b f => ?_)
  · have h := subtracts_subOp (.inl rfl) false a b f
    exact ⟨h, zero_of_subtracts (.inl rfl) h, carry_of_subtracts h, signed_of_subtracts (.inl rfl) h⟩
  · have h := subtracts_subOp (.inr rfl) false a b f
    exact ⟨h, zero_of_subtracts (.inr rfl) h, carry_of_subtracts h, signed_of_subtracts (.inr rfl) h⟩

/-! ## INC, DEC, NEG and NOT -/

theorem unaryPlace8_eq (f : Byte → Word → Byte × Word) (p : Place8) (s : State) :
    unaryPlace8 f p s = writePlace8 p (f (readPlace8 p s).1 s.flags).1
      (setFlags (f (readPlace8 p s).1 s.flags).2 (readPlace8 p s).2) := by simp [unaryPlace8]

theorem unaryPlace16_eq (f : Word → Word → Word × Word) (p : Place16) (s : State) :
    unaryPlace16 f p s = writePlace16 p (f (readPlace16 p s).1 s.flags).1
      (setFlags (f (readPlace16 p s).1 s.flags).2 (readPlace16 p s).2) := by simp [unaryPlace16]

section
variable {w : Nat} {a b r : BitVec w} {c : Bool} {f g : Word}

/-- CF is not looked at. -/
theorem ResultFlags.putCarry (h : ResultFlags r g) (x : Bool) : ResultFlags r (putFlag .CF x g) :=
  ⟨by simp [h.sign], by simp [h.zero], by simp [h.parity]⟩

theorem SumOf.putCarry (h : SumOf a b c r g) (x : Bool) : SumOf a b c r (putFlag .CF x g) :=
  ⟨h.value, by simp [h.overflow], by simp [h.adjust], ResultFlags.putCarry h.result x⟩

theorem DifferenceOf.putCarry (h : DifferenceOf a b c r g) (x : Bool) : DifferenceOf a b c r (putFlag .CF x g) :=
  ⟨h.value, by simp [h.overflow], by simp [h.adjust], ResultFlags.putCarry h.result x⟩

/-- CF put back as it was, CF is kept too. -/
theorem keepsAllBut_restoreCarry (h : keepsAllBut statusFlags f g) :
    keepsAllBut [.PF, .AF, .ZF, .SF, .OF] f (putFlag .CF (getFlag .CF f) g) := by
  intro k hk hn
  rw [putFlag_getLsbD]
  split
  · next he => rw [he]; rfl
  · next he =>
    refine h k hk fun x hx => ?_
    have hx' : x = .CF ∨ x ∈ [Flag.PF, .AF, .ZF, .SF, .OF] := by simpa [statusFlags] using hx
    rcases hx' with rfl | hx'
    · exact fun e => he e.symm
    · exact hn x hx'

/-- INC on numbers (41_arithmetic R179). -/
theorem incOp_result (hw : w = 8 ∨ w = 16) (a : BitVec w) (f : Word) :
    SumOf a 1 false (incOp a f).1 (incOp a f).2 ∧ keepsAllBut [.PF, .AF, .ZF, .SF, .OF] f (incOp a f).2 := by
  obtain ⟨hs, _, hk⟩ := adds_addOp hw false a 1#w f
  exact ⟨SumOf.putCarry hs _, keepsAllBut_restoreCarry hk⟩

/-- DEC on numbers (41_arithmetic R180). -/
theorem decOp_result (hw : w = 8 ∨ w = 16) (a : BitVec w) (f : Word) :
    DifferenceOf a 1 false (decOp a f).1 (decOp a f).2 ∧ keepsAllBut [.PF, .AF, .ZF, .SF, .OF] f (decOp a f).2 := by
  obtain ⟨hs, _, hk⟩ := subtracts_subOp hw false a 1#w f
  exact ⟨DifferenceOf.putCarry hs _, keepsAllBut_restoreCarry hk⟩

end

/-- Both forms of a one-operand operation, from what it makes of a byte and of a word. -/
theorem unaryRuns_of {eb : Rm8 → Instr} {ew : Rm16 → Instr} {op : {w : Nat} → BitVec w → Word → BitVec w × Word}
    {P : {w : Nat} → BitVec w → Word → BitVec w → Word → Prop}
    (heb : ∀ rm s, exec (eb rm) s = .next (unaryPlace8 op (place8 rm s) s))
    (hew : ∀ rm s, exec (ew rm) s = .next (unaryPlace16 op (place16 rm s) s))
    (h8 : ∀ (a : Byte) (f : Word), P a f (op a f).1 (op a f).2)
    (h16 : ∀ (a : Word) (f : Word), P a f (op a f).1 (op a f).2) : UnaryRuns eb ew P := by
  refine fun s => ⟨fun rm => ⟨_, _, ?_, h8 _ _⟩, fun rm => ⟨_, _, ?_, h16 _ _⟩⟩
  · rw [heb, unaryPlace8_eq]; rfl
  · rw [hew, unaryPlace16_eq]; rfl

/-- Settles O15: both are an addition or subtraction of 1 whose carry is put back. -/
theorem incrementResults : Obligations.IncrementResults :=
  ⟨fun s reg => ⟨_, _, rfl, incOp_result (.inr rfl) (s.reg16 reg) s.flags⟩,
    fun s reg => ⟨_, _, rfl, decOp_result (.inr rfl) (s.reg16 reg) s.flags⟩,
    unaryRuns_of (op := incOp) (fun _ _ => rfl) (fun _ _ => rfl) (incOp_result (.inl rfl)) (incOp_result (.inr rfl)),
    unaryRuns_of (op := decOp) (fun _ _ => rfl) (fun _ _ => rfl) (decOp_result (.inl rfl)) (decOp_result (.inr rfl))⟩

/-- NEG on numbers (41_arithmetic R183). -/
theorem negOp_result {w : Nat} (hw : w = 8 ∨ w = 16) (a : BitVec w) (f : Word) :
    Subtracts false 0#w a f (negOp a f).1 (negOp a f).2 ∧ (getFlag .CF (negOp a f).2 = true ↔ a ≠ 0#w) ∧
      (getFlag .OF (negOp a f).2 = true ↔ a.toNat = 2 ^ (w - 1)) ∧
      (getFlag .AF (negOp a f).2 = true ↔ a.toNat % 16 ≠ 0) := by
  have h : Subtracts false 0#w a f (negOp a f).1 (negOp a f).2 := subtracts_subOp hw false 0#w a f
  have ha := a.isLt
  refine ⟨h, ?_, ?_, ?_⟩
  · rw [carry_of_subtracts h, ne_eq, ← BitVec.toNat_inj]
    simp only [BitVec.toNat_ofNat, Nat.zero_mod]
    omega
  · rw [h.1.overflow]
    simp only [outsideRange, BitVec.toInt_eq_toNat_cond]
    rcases hw with rfl | rfl <;> norm_num at * <;> split <;> omega
  · rw [h.1.adjust, decide_eq_true_eq]
    simp only [BitVec.toNat_ofNat, Nat.zero_mod, Bool.toNat_false]
    omega

/-- NOT on numbers: every bit inverted, FLAGS as they were (42_logical R205). -/
def notOp {w : Nat} (a : BitVec w) (f : Word) : BitVec w × Word := (~~~a, f)

theorem notPlace8_eq (p : Place8) (s : State) : notPlace8 p s = unaryPlace8 notOp p s := rfl

theorem notPlace16_eq (p : Place16) (s : State) : notPlace16 p s = unaryPlace16 notOp p s := rfl

/-- Settles O16: NEG is the subtraction from 0, NOT the complement with FLAGS as it was. -/
theorem negateAndNotResults : Obligations.NegateAndNotResults :=
  ⟨unaryRuns_of (op := negOp) (fun _ _ => rfl) (fun _ _ => rfl) (negOp_result (.inl rfl)) (negOp_result (.inr rfl)),
    unaryRuns_of (op := notOp) (fun rm s => congrArg Host.Outcome.next (notPlace8_eq (place8 rm s) s))
      (fun rm s => congrArg Host.Outcome.next (notPlace16_eq (place16 rm s) s))
      (fun _ _ => ⟨rfl, BitVec.toNat_not⟩) (fun _ _ => ⟨rfl, BitVec.toNat_not⟩)⟩

/-! ## AND, OR, XOR and TEST (42_logical R200 to R204) -/

section
variable {w : Nat} (a b : BitVec w) (f : Word)

theorem bitwise_and : Bitwise and a b f (a &&& b) (logicFlags (a &&& b) f) :=
  ⟨fun _ _ => BitVec.getLsbD_and, logicalFlags_logicFlags _ f⟩

theorem bitwise_or : Bitwise or a b f (a ||| b) (logicFlags (a ||| b) f) :=
  ⟨fun _ _ => BitVec.getLsbD_or, logicalFlags_logicFlags _ f⟩

theorem bitwise_xor : Bitwise xor a b f (a ^^^ b) (logicFlags (a ^^^ b) f) :=
  ⟨fun _ _ => BitVec.getLsbD_xor, logicalFlags_logicFlags _ f⟩

end

theorem testPlace8_eq (p : Place8) (b : Byte) (s : State) :
    testPlace8 p b s = setFlags (logicFlags ((readPlace8 p s).1 &&& b) s.flags) (readPlace8 p s).2 := by
  simp [testPlace8]

theorem testPlace16_eq (p : Place16) (b : Word) (s : State) :
    testPlace16 p b s = setFlags (logicFlags ((readPlace16 p s).1 &&& b) s.flags) (readPlace16 p s).2 := by
  simp [testPlace16]

/-- A form of TEST on bytes, and one on words. -/
theorem testRuns8 {i : Instr} {p : Place8} {b : Byte} {s : State} (h : exec i s = .next (testPlace8 p b s)) :
    ∃ r g, exec i s = .next (setFlags g (readPlace8 p s).2) ∧ Bitwise and (readPlace8 p s).1 b s.flags r g :=
  ⟨_, _, by rw [h, testPlace8_eq], bitwise_and _ _ _⟩

theorem testRuns16 {i : Instr} {p : Place16} {b : Word} {s : State} (h : exec i s = .next (testPlace16 p b s)) :
    ∃ r g, exec i s = .next (setFlags g (readPlace16 p s).2) ∧ Bitwise and (readPlace16 p s).1 b s.flags r g :=
  ⟨_, _, by rw [h, testPlace16_eq], bitwise_and _ _ _⟩

/-- Settles O17: the three operations bit by bit, with the flags that `logicFlags` writes. -/
theorem logicalResults : Obligations.LogicalResults :=
  ⟨aluRuns_of (op := .and) rfl bitwise_and bitwise_and, aluRuns_of (op := .or) rfl bitwise_or bitwise_or,
    aluRuns_of (op := .xor) rfl bitwise_xor bitwise_xor, fun s =>
    ⟨fun rm _ => testRuns8 (p := place8 rm s) rfl, fun rm _ => testRuns16 (p := place16 rm s) rfl,
      fun _ => testRuns8 (p := .reg .al) rfl, fun _ => testRuns16 (p := .reg .ax) rfl,
      fun rm _ => testRuns8 (p := place8 rm s) rfl, fun rm _ => testRuns16 (p := place16 rm s) rfl⟩⟩

end Sys2Proof.Proofs
end

section
/-! Shifts and rotates: the steps of 43_shift_rotate R221 in a row have the closed forms of R230. -/

namespace Sys2Proof.Proofs

open Sys2Proof Sys2Proof.Machine Sys2Proof.Laws

/-! ## Rotations of a bit vector -/

section
variable {w : Nat}

theorem getLsbD_rotateRight_mod (x : BitVec w) (r : Nat) {i : Nat} (hi : i < w) :
    (x.rotateRight r).getLsbD i = x.getLsbD ((r + i) % w) := by
  have hr : r % w < w := Nat.mod_lt _ (by omega)
  rw [BitVec.getLsbD_rotateRight, ← Nat.mod_add_mod]
  by_cases h : i < w - r % w
  · rw [Nat.mod_eq_of_lt (a := r % w + i) (by omega)]
    simp [h]
  · have hm : (r % w + i) % w = i - (w - r % w) := by
      rw [Nat.mod_eq_sub_mod (by omega), Nat.mod_eq_of_lt (by omega)]
      omega
    simp only [hm, h, decide_false, cond_false, hi, decide_true, Bool.true_and]

theorem getLsbD_rotateLeft_one (hw : 2 ≤ w) (x : BitVec w) {i : Nat} (hi : i < w) :
    (x.rotateLeft 1).getLsbD i = if i = 0 then x.getLsbD (w - 1) else x.getLsbD (i - 1) := by
  rw [BitVec.getLsbD_rotateLeft, Nat.mod_eq_of_lt (by omega : 1 < w)]
  rcases i with _ | i
  · rfl
  · simp only [hi, Nat.not_lt.mpr (Nat.le_add_left 1 i), decide_false, cond_false, decide_true, Bool.true_and,
      Nat.add_one_ne_zero, ↓reduceIte]

theorem rotateRight_zero (x : BitVec w) : x.rotateRight 0 = x := by
  apply BitVec.eq_of_getLsbD_eq
  intro i hi
  rw [getLsbD_rotateRight_mod _ _ hi, Nat.zero_add, Nat.mod_eq_of_lt hi]

theorem rotateLeft_zero (x : BitVec w) : x.rotateLeft 0 = x := by
  apply BitVec.eq_of_getMsbD_eq
  intro i hi
  simp only [BitVec.getMsbD_rotateLeft, hi, decide_true, Bool.true_and, Nat.zero_add, Nat.mod_eq_of_lt hi]

theorem rotateRight_rotateRight (x : BitVec w) (r s : Nat) : (x.rotateRight r).rotateRight s = x.rotateRight (r + s) := by
  apply BitVec.eq_of_getLsbD_eq
  intro i hi
  rw [getLsbD_rotateRight_mod _ _ hi, getLsbD_rotateRight_mod _ _ (Nat.mod_lt _ (by omega)),
    getLsbD_rotateRight_mod _ _ hi, Nat.add_mod_mod, Nat.add_assoc]

theorem rotateLeft_rotateLeft (x : BitVec w) (r s : Nat) : (x.rotateLeft r).rotateLeft s = x.rotateLeft (r + s) := by
  apply BitVec.eq_of_getMsbD_eq
  intro i hi
  have hm : (s + i) % w < w := Nat.mod_lt _ (by omega)
  simp only [BitVec.getMsbD_rotateLeft, hi, hm, decide_true, Bool.true_and, Nat.add_mod_mod, Nat.add_assoc]

end

/-! ## One step (43_shift_rotate R221) -/

section
variable {w : Nat}

theorem getLsbD_shiftLeftIn (v : BitVec w) (o : Bool) {i : Nat} (hi : i < w) :
    (shiftLeftIn v o).getLsbD i = if i = 0 then o else v.getLsbD (i - 1) := by
  rw [shiftLeftIn, BitVec.getLsbD_or, BitVec.getLsbD_shiftLeft, BitVec.getLsbD_ofNat]
  rcases i with _ | i
  · cases o <;> simp [hi]
  · have h1 : Nat.testBit 1 (i + 1) = false := by simp [Nat.testBit_succ]
    cases o <;> simp [hi, h1, -BitVec.getLsbD_eq_getElem]

theorem getLsbD_shiftRightIn (o : Bool) (v : BitVec w) {i : Nat} (hi : i < w) :
    (shiftRightIn o v).getLsbD i = if i = w - 1 then o else v.getLsbD (i + 1) := by
  have h1 : (BitVec.ofNat w o.toNat <<< (w - 1)).getLsbD i = (decide (i = w - 1) && o) := by
    by_cases he : i = w - 1
    · subst he
      have hw : 0 < w := by omega
      cases o <;> simp [hw]
    · have hlt : i < w - 1 := by omega
      simp [he, hlt]
  rw [shiftRightIn, BitVec.getLsbD_or, h1, BitVec.getLsbD_ushiftRight]
  by_cases he : i = w - 1
  · subst he
    have hv : v.getLsbD (1 + (w - 1)) = false := BitVec.getLsbD_of_ge _ _ (by omega)
    simp [hv]
  · simp [he, Nat.add_comm]

theorem msb_eq_last (v : BitVec w) : v.msb = v.getLsbD (w - 1) := BitVec.msb_eq_getLsbD_last v

/-- The ROL step is a rotation (43_shift_rotate R221, R223). -/
theorem shiftLeftIn_msb (hw : 2 ≤ w) (v : BitVec w) : shiftLeftIn v v.msb = v.rotateLeft 1 := by
  apply BitVec.eq_of_getLsbD_eq
  intro i hi
  rw [getLsbD_shiftLeftIn v _ hi, getLsbD_rotateLeft_one hw v hi, msb_eq_last]

/-- The ROR step is a rotation. -/
theorem shiftRightIn_lsb (hw : 2 ≤ w) (v : BitVec w) : shiftRightIn (v.getLsbD 0) v = v.rotateRight 1 := by
  apply BitVec.eq_of_getLsbD_eq
  intro i hi
  rw [getLsbD_shiftRightIn _ v hi, getLsbD_rotateRight_mod _ _ hi]
  split
  · next he =>
    have : 1 + i = w := by omega
    rw [this, Nat.mod_self]
  · rw [Nat.mod_eq_of_lt (by omega), Nat.add_comm]

/-- The RCL step rotates the carry and the operand together. -/
theorem cons_shiftLeftIn (hw : 2 ≤ w) (cf : Bool) (v : BitVec w) :
    BitVec.cons v.msb (shiftLeftIn v cf) = (BitVec.cons cf v).rotateLeft 1 := by
  apply BitVec.eq_of_getLsbD_eq
  intro i hi
  rw [BitVec.getLsbD_cons, getLsbD_rotateLeft_one (by omega) _ hi, BitVec.getLsbD_cons, BitVec.getLsbD_cons, msb_eq_last]
  by_cases he : i = w
  · rw [if_pos he, if_neg (by omega : ¬ i = 0), if_neg (by omega : ¬ i - 1 = w), he]
  · rw [if_neg he, getLsbD_shiftLeftIn v cf (by omega), if_pos (Nat.add_sub_cancel w 1), if_neg (by omega : ¬ i - 1 = w)]

/-- The RCR step rotates the carry and the operand together. -/
theorem cons_shiftRightIn (hw : 2 ≤ w) (cf : Bool) (v : BitVec w) :
    BitVec.cons (v.getLsbD 0) (shiftRightIn cf v) = (BitVec.cons cf v).rotateRight 1 := by
  apply BitVec.eq_of_getLsbD_eq
  intro i hi
  rw [BitVec.getLsbD_cons, getLsbD_rotateRight_mod _ _ hi]
  by_cases he : i = w
  · have h0 : 1 + w = w + 1 := by omega
    have h2 : 0 ≠ w := by omega
    rw [if_pos he, he, h0, Nat.mod_self, BitVec.getLsbD_cons, if_neg h2]
  · have hi' : i < w := by omega
    rw [if_neg he, getLsbD_shiftRightIn cf v hi', Nat.mod_eq_of_lt (by omega), BitVec.getLsbD_cons]
    by_cases hl : i = w - 1
    · rw [if_pos hl, if_pos (by omega)]
    · rw [if_neg hl, if_neg (by omega), Nat.add_comm]

theorem shiftLeftIn_false (v : BitVec w) : shiftLeftIn v false = v <<< 1 := by simp [shiftLeftIn]

theorem shiftRightIn_false (v : BitVec w) : shiftRightIn false v = v >>> 1 := by simp [shiftRightIn]

/-- The SAR step is the arithmetic shift. -/
theorem shiftRightIn_msb (v : BitVec w) : shiftRightIn v.msb v = v.sshiftRight 1 := by
  apply BitVec.eq_of_getLsbD_eq
  intro i hi
  rw [getLsbD_shiftRightIn _ v hi, BitVec.getLsbD_sshiftRight]
  have hw : ¬ w ≤ i := by omega
  simp only [hw, decide_false, Bool.not_false, Bool.true_and]
  by_cases hl : i = w - 1
  · rw [if_pos hl, if_neg (by omega)]
  · rw [if_neg hl, if_pos (by omega), Nat.add_comm]

end

/-! ## Steps in a row (43_shift_rotate R220, R230) -/

section
variable {w : Nat}

/-- The last of several steps, taken off the end. -/
theorem shiftSteps_succ (op : ShiftOp) (c : Nat) (v : BitVec w) (cf : Bool) :
    shiftSteps op (c + 1) v cf = shiftStep op (shiftSteps op c v cf).1 (shiftSteps op c v cf).2 := by
  induction c generalizing v cf with
  | zero => rfl
  | succ c ih => rw [shiftSteps, ih]; rfl

theorem shiftSteps_rol (hw : 2 ≤ w) (c : Nat) (v : BitVec w) (cf : Bool) :
    (shiftSteps .rol c v cf).1 = v.rotateLeft c := by
  induction c with
  | zero => exact (rotateLeft_zero _).symm
  | succ c ih => rw [shiftSteps_succ, shiftStep, ih, shiftLeftIn_msb hw, rotateLeft_rotateLeft]

theorem shiftSteps_ror (hw : 2 ≤ w) (c : Nat) (v : BitVec w) (cf : Bool) :
    (shiftSteps .ror c v cf).1 = v.rotateRight c := by
  induction c with
  | zero => exact (rotateRight_zero _).symm
  | succ c ih => rw [shiftSteps_succ, shiftStep, ih, shiftRightIn_lsb hw, rotateRight_rotateRight]

theorem shiftSteps_rcl (hw : 2 ≤ w) (c : Nat) (v : BitVec w) (cf : Bool) :
    BitVec.cons (shiftSteps .rcl c v cf).2 (shiftSteps .rcl c v cf).1 = (BitVec.cons cf v).rotateLeft c := by
  induction c with
  | zero => exact (rotateLeft_zero _).symm
  | succ c ih => rw [shiftSteps_succ, shiftStep, cons_shiftLeftIn hw, ih, rotateLeft_rotateLeft]

theorem shiftSteps_rcr (hw : 2 ≤ w) (c : Nat) (v : BitVec w) (cf : Bool) :
    BitVec.cons (shiftSteps .rcr c v cf).2 (shiftSteps .rcr c v cf).1 = (BitVec.cons cf v).rotateRight c := by
  induction c with
  | zero => exact (rotateRight_zero _).symm
  | succ c ih => rw [shiftSteps_succ, shiftStep, cons_shiftRightIn hw, ih, rotateRight_rotateRight]

theorem shiftSteps_shl (c : Nat) (v : BitVec w) (cf : Bool) : (shiftSteps .shl c v cf).1 = v <<< c := by
  induction c with
  | zero => simp [shiftSteps]
  | succ c ih => rw [shiftSteps_succ, shiftStep, ih, shiftLeftIn_false, BitVec.shiftLeft_add]

theorem shiftSteps_shr (c : Nat) (v : BitVec w) (cf : Bool) : (shiftSteps .shr c v cf).1 = v >>> c := by
  induction c with
  | zero => simp [shiftSteps]
  | succ c ih => rw [shiftSteps_succ, shiftStep, ih, shiftRightIn_false, BitVec.shiftRight_add]

theorem shiftSteps_sar (c : Nat) (v : BitVec w) (cf : Bool) : (shiftSteps .sar c v cf).1 = v.sshiftRight c := by
  induction c with
  | zero => simp [shiftSteps]
  | succ c ih => rw [shiftSteps_succ, shiftStep, ih, shiftRightIn_msb, BitVec.sshiftRight_add]

/-! The carry is the bit the last step shifts out. -/

theorem shiftSteps_rol_carry (hw : 2 ≤ w) {c : Nat} (hc : 0 < c) (v : BitVec w) (cf : Bool) :
    (shiftSteps .rol c v cf).2 = (shiftSteps .rol c v cf).1.getLsbD 0 := by
  obtain ⟨c, rfl⟩ := Nat.exists_eq_add_one_of_ne_zero (by omega : c ≠ 0)
  rw [shiftSteps_succ, shiftStep, getLsbD_shiftLeftIn _ _ (by omega), if_pos rfl]

theorem shiftSteps_ror_carry (hw : 2 ≤ w) {c : Nat} (hc : 0 < c) (v : BitVec w) (cf : Bool) :
    (shiftSteps .ror c v cf).2 = (shiftSteps .ror c v cf).1.msb := by
  obtain ⟨c, rfl⟩ := Nat.exists_eq_add_one_of_ne_zero (by omega : c ≠ 0)
  rw [shiftSteps_succ, shiftStep, msb_eq_last, getLsbD_shiftRightIn _ _ (by omega), if_pos rfl]

theorem shiftSteps_shl_carry (hw : 2 ≤ w) {c : Nat} (hc : 0 < c) (v : BitVec w) (cf : Bool) :
    (shiftSteps .shl c v cf).2 = (v.toNat * 2 ^ c).testBit w := by
  obtain ⟨c, rfl⟩ := Nat.exists_eq_add_one_of_ne_zero (by omega : c ≠ 0)
  rw [shiftSteps_succ, shiftStep, shiftSteps_shl, msb_eq_last, BitVec.getLsbD_shiftLeft, BitVec.getLsbD,
    Nat.testBit_mul_two_pow]
  have h1 : w - 1 < w := by omega
  by_cases h : w - 1 < c
  · have h2 : ¬ c + 1 ≤ w := by omega
    simp [h, h2]
  · have h2 : c + 1 ≤ w := by omega
    have h3 : w - 1 - c = w - (c + 1) := by omega
    simp [h, h1, h2, h3]

theorem shiftSteps_shr_carry {c : Nat} (hc : 0 < c) (v : BitVec w) (cf : Bool) :
    (shiftSteps .shr c v cf).2 = v.toNat.testBit (c - 1) := by
  obtain ⟨c, rfl⟩ := Nat.exists_eq_add_one_of_ne_zero (by omega : c ≠ 0)
  rw [shiftSteps_succ, shiftStep, shiftSteps_shr, BitVec.getLsbD_ushiftRight]
  rfl

/-- The lowest bit of a signed value. -/
theorem getLsbD_zero_eq (hw : w = 8 ∨ w = 16) (v : BitVec w) : v.getLsbD 0 = decide (v.toInt % 2 = 1) := by
  rw [BitVec.getLsbD, Nat.testBit_zero, decide_eq_decide, BitVec.toInt_eq_toNat_cond]
  rcases hw with rfl | rfl <;> norm_num <;> split <;> omega

theorem toInt_sshiftRight_eq (v : BitVec w) (c : Nat) : (v.sshiftRight c).toInt = v.toInt / 2 ^ c := by
  rw [BitVec.toInt_sshiftRight, Int.shiftRight_eq_div_pow]
  norm_cast

theorem shiftSteps_sar_carry (hw : w = 8 ∨ w = 16) {c : Nat} (hc : 0 < c) (v : BitVec w) (cf : Bool) :
    (shiftSteps .sar c v cf).2 = decide (v.toInt / 2 ^ (c - 1) % 2 = 1) := by
  obtain ⟨c, rfl⟩ := Nat.exists_eq_add_one_of_ne_zero (by omega : c ≠ 0)
  rw [shiftSteps_succ, shiftStep, shiftSteps_sar, getLsbD_zero_eq hw, toInt_sshiftRight_eq]
  rfl

/-- After an arithmetic shift the two top bits agree. -/
theorem sshiftRight_top (hw : 2 ≤ w) {c : Nat} (hc : 0 < c) (v : BitVec w) :
    (v.sshiftRight c).msb = (v.sshiftRight c).getLsbD (w - 2) := by
  have h1 : ¬ w ≤ w - 1 := by omega
  have h2 : ¬ w ≤ w - 2 := by omega
  have h3 : ¬ c + (w - 1) < w := by omega
  rw [msb_eq_last, BitVec.getLsbD_sshiftRight, BitVec.getLsbD_sshiftRight]
  simp only [h1, h2, h3, decide_false, Bool.not_false, Bool.true_and, ↓reduceIte]
  split
  · have h4 : c + (w - 2) = w - 1 := by omega
    rw [h4, msb_eq_last]
  · rfl

end

/-! ## Flags (43_shift_rotate R222) -/

section
variable {w : Nat} {op : ShiftOp} (r : BitVec w) (cf : Bool) (f : Word)

theorem keepsAllBut_shiftFlags_rotate (h : shiftSetsSzp op = false) : keepsAllBut [.CF, .OF] f (shiftFlags op r cf f) := by
  simp only [shiftFlags, h, Bool.false_eq_true, ↓reduceIte]
  exact keepsAllBut_putFlag (by simp) _ (keepsAllBut_putFlag (by simp) _ (keepsAllBut_refl _ f))

theorem keepsAllBut_shiftFlags (h : shiftSetsSzp op = true) :
    keepsAllBut [.CF, .OF, .SF, .ZF, .PF] f (shiftFlags op r cf f) := by
  simp only [shiftFlags, h, ↓reduceIte, szpFlags]
  exact keepsAllBut_putFlag (by simp) _ (keepsAllBut_putFlag (by simp) _ (keepsAllBut_putFlag (by simp) _
    (keepsAllBut_putFlag (by simp) _ (keepsAllBut_putFlag (by simp) _ (keepsAllBut_refl _ f)))))

theorem resultFlags_shiftFlags (h : shiftSetsSzp op = true) : ResultFlags r (shiftFlags op r cf f) :=
  resultFlags_of (by simp [getFlag_shiftFlags, h]) (by simp [getFlag_shiftFlags, h]) (by simp [getFlag_shiftFlags, h])

theorem leftRotateFlags_shiftFlags (h : op = .rol ∨ op = .rcl) : LeftRotateFlags r cf f (shiftFlags op r cf f) := by
  rcases h with rfl | rfl <;>
    exact ⟨getFlag_shiftFlags _ _ _ _ .CF, getFlag_shiftFlags _ _ _ _ .OF, keepsAllBut_shiftFlags_rotate r cf f rfl⟩

theorem rightRotateFlags_shiftFlags (h : op = .ror ∨ op = .rcr) : RightRotateFlags r cf f (shiftFlags op r cf f) := by
  unfold RightRotateFlags
  rw [← msb_eq_last]
  rcases h with rfl | rfl <;>
    exact ⟨getFlag_shiftFlags _ _ _ _ .CF, getFlag_shiftFlags _ _ _ _ .OF, keepsAllBut_shiftFlags_rotate r cf f rfl⟩

theorem shiftedFlags_shiftFlags (h : shiftSetsSzp op = true) :
    ShiftedFlags r cf (shiftOverflow op r cf) f (shiftFlags op r cf f) :=
  ⟨getFlag_shiftFlags _ _ _ _ .CF, getFlag_shiftFlags _ _ _ _ .OF, resultFlags_shiftFlags r cf f h,
    keepsAllBut_shiftFlags r cf f h⟩

end

/-! ## The six forms (43_shift_rotate R220) -/

/-- The forms of each operation. -/
def shiftForms : ShiftOp → ShiftForms
  | .rol => rolForms | .ror => rorForms | .rcl => rclForms | .rcr => rcrForms
  | .shl => shlForms | .shr => shrForms | .sar => sarForms

/-- The six forms run the operation `op`. -/
structure RunShift (op : ShiftOp) (forms : ShiftForms) : Prop where
  eb1 : ∀ rm s, exec (forms.eb1 rm) s = .next (shiftPlace8 op 1 (place8 rm s) s)
  ew1 : ∀ rm s, exec (forms.ew1 rm) s = .next (shiftPlace16 op 1 (place16 rm s) s)
  ebCL : ∀ rm s, exec (forms.ebCL rm) s = .next (shiftPlace8 op (s.reg8 .cl) (place8 rm s) s)
  ewCL : ∀ rm s, exec (forms.ewCL rm) s = .next (shiftPlace16 op (s.reg8 .cl) (place16 rm s) s)
  ebCnt8 : ∀ rm cnt s, exec (forms.ebCnt8 rm cnt) s = .next (shiftPlace8 op cnt (place8 rm s) s)
  ewCnt8 : ∀ rm cnt s, exec (forms.ewCnt8 rm cnt) s = .next (shiftPlace16 op cnt (place16 rm s) s)

theorem runShift (op : ShiftOp) : RunShift op (shiftForms op) := by
  cases op <;> exact ⟨fun _ _ => rfl, fun _ _ => rfl, fun _ _ => rfl, fun _ _ => rfl, fun _ _ _ => rfl, fun _ _ _ => rfl⟩

theorem shiftCount_eq (raw : Byte) : shiftCount raw = raw.toNat % 32 := by
  rw [shiftCount, BitVec.toNat_and]
  exact Nat.and_two_pow_sub_one_eq_mod raw.toNat 5

/-- What an operation makes of an operand, for every count that is not 0, with the flags it writes. -/
def ShiftMakes (op : ShiftOp) (w : Nat) (P : ShiftBy) : Prop :=
  ∀ (v : BitVec w) (c : Nat) (f : Word), 0 < c →
    P v c f (shiftSteps op c v (getFlag .CF f)).1
      (shiftFlags op (shiftSteps op c v (getFlag .CF f)).1 (shiftSteps op c v (getFlag .CF f)).2 f)

section
variable {op : ShiftOp} {P : ShiftBy}

theorem shiftRuns8_of {i : Instr} {rm : Rm8} {raw : Byte} {s : State} (hP : ShiftMakes op 8 P)
    (h : exec i s = .next (shiftPlace8 op raw (place8 rm s) s)) : ShiftRuns8 i rm raw s P := by
  unfold ShiftRuns8
  rw [← shiftCount_eq, h]
  split
  · next hc => simp [shiftPlace8, shiftOp, hc, operand8]
  · next hc => exact ⟨_, _, by simp [shiftPlace8, shiftOp, hc, operand8], hP _ _ _ (by omega)⟩

theorem shiftRuns16_of {i : Instr} {rm : Rm16} {raw : Byte} {s : State} (hP : ShiftMakes op 16 P)
    (h : exec i s = .next (shiftPlace16 op raw (place16 rm s) s)) : ShiftRuns16 i rm raw s P := by
  unfold ShiftRuns16
  rw [← shiftCount_eq, h]
  split
  · next hc => simp [shiftPlace16, shiftOp, hc, operand16]
  · next hc => exact ⟨_, _, by simp [shiftPlace16, shiftOp, hc, operand16], hP _ _ _ (by omega)⟩

/-- All six forms, from what the operation makes of bytes and of words. -/
theorem shiftRuns_of (h : ∀ w, w = 8 ∨ w = 16 → ShiftMakes op w P) : ShiftRuns (shiftForms op) P := by
  have hr := runShift op
  have h8 := h 8 (.inl rfl)
  have h16 := h 16 (.inr rfl)
  exact fun s => ⟨fun rm => shiftRuns8_of h8 (hr.eb1 rm s), fun rm => shiftRuns16_of h16 (hr.ew1 rm s),
    fun rm => shiftRuns8_of h8 (hr.ebCL rm s), fun rm => shiftRuns16_of h16 (hr.ewCL rm s),
    fun rm cnt => shiftRuns8_of h8 (hr.ebCnt8 rm cnt s), fun rm cnt => shiftRuns16_of h16 (hr.ewCnt8 rm cnt s)⟩

end

theorem two_le_of_width {w : Nat} (hw : w = 8 ∨ w = 16) : 2 ≤ w := by omega

/-- Settles O18: each step rotates by one, the operand or, for RCL and RCR, the carry and the operand together; so `c`
steps rotate by `c`. -/
theorem rotateResults : Obligations.RotateResults := by
  refine ⟨shiftRuns_of (op := .rol) fun w hw v c f hc => ?_, shiftRuns_of (op := .ror) fun w hw v c f hc => ?_,
    shiftRuns_of (op := .rcl) fun w hw v c f _ => ?_, shiftRuns_of (op := .rcr) fun w hw v c f _ => ?_⟩
  all_goals have h2 := two_le_of_width hw
  · refine ⟨shiftSteps_rol h2 c v _, ?_⟩
    rw [← shiftSteps_rol_carry h2 hc]
    exact leftRotateFlags_shiftFlags _ _ f (.inl rfl)
  · refine ⟨shiftSteps_ror h2 c v _, ?_⟩
    rw [← shiftSteps_ror_carry h2 hc]
    exact rightRotateFlags_shiftFlags _ _ f (.inl rfl)
  · exact ⟨_, shiftSteps_rcl h2 c v _, leftRotateFlags_shiftFlags _ _ f (.inr rfl)⟩
  · exact ⟨_, shiftSteps_rcr h2 c v _, rightRotateFlags_shiftFlags _ _ f (.inr rfl)⟩

/-- Settles O19: each step shifts by one, so `c` steps shift by `c`; the carry is the bit that the last step shifts out. -/
theorem shiftResults : Obligations.ShiftResults := by
  refine ⟨shiftRuns_of (op := .shl) fun w hw v c f hc => ?_, shiftRuns_of (op := .shr) fun w hw v c f hc => ?_,
    shiftRuns_of (op := .sar) fun w hw v c f hc => ?_⟩
  all_goals have h2 := two_le_of_width hw
  · beta_reduce
    rw [← shiftSteps_shl_carry h2 hc v (getFlag .CF f)]
    refine ⟨?_, shiftedFlags_shiftFlags _ _ f rfl⟩
    rw [shiftSteps_shl, BitVec.toNat_shiftLeft, Nat.shiftLeft_eq]
  · beta_reduce
    rw [← shiftSteps_shr_carry hc v (getFlag .CF f), ← msb_eq_last]
    refine ⟨?_, shiftedFlags_shiftFlags _ _ f rfl⟩
    rw [shiftSteps_shr, BitVec.toNat_ushiftRight, Nat.shiftRight_eq_div_pow]
  · beta_reduce
    rw [← shiftSteps_sar_carry hw hc v (getFlag .CF f)]
    have hov : shiftOverflow .sar (shiftSteps .sar c v (getFlag .CF f)).1 (shiftSteps .sar c v (getFlag .CF f)).2 =
        false := by rw [shiftSteps_sar, shiftOverflow, sshiftRight_top h2 hc, Bool.xor_self]
    have hflags := shiftedFlags_shiftFlags (op := .sar) (shiftSteps .sar c v (getFlag .CF f)).1
      (shiftSteps .sar c v (getFlag .CF f)).2 f rfl
    rw [hov] at hflags
    exact ⟨by rw [shiftSteps_sar, toInt_sshiftRight_eq], hflags⟩

end Sys2Proof.Proofs
end

section
/-! Data transfer and the transfers of control without a condition (40_data_transfer, 45_control_transfer R266 to R278), and
the words of the examples of 30_encoding. -/

namespace Sys2Proof.Proofs

open Sys2Proof Sys2Proof.Machine Sys2Proof.Laws

/-- Settles O11: the decoder evaluates on each word. -/
theorem decodeSanity : Obligations.DecodeSanity :=
  ⟨rfl, rfl, rfl, rfl, rfl, rfl, rfl, rfl, rfl⟩

/-- An instruction whose meaning is one operation, by an equation of that operation. -/
theorem exec_of_eq {i : Instr} {s t u : State} (h : exec i s = .next t) (e : t = u) : exec i s = .next u := by rw [h, e]

/-! ## Destinations (40_data_transfer R130 to R138) -/

/-- A byte of RAM holds what was stored there. -/
theorem peekByte_segWrite8 {j : SReg} {off : Word} (v : Byte) {s : State} (hw : Memory.wf s.mem = true)
    (h : onRam (segBytes j off 1 s) s = true) : peekByte j off (segWrite8 j off v s) = v := by
  rw [segBytes_one, onRam_iff] at h
  rw [peekByte, segWrite8_sreg]
  exact peek8_write8 v hw (h.1 _ (by simp))

theorem stores8_writePlace8 (p : Place8) (v : Byte) (s : State) : Stores8 p v s (writePlace8 p v s) := by
  refine ⟨rfl, ?_⟩
  cases p with
  | reg r => exact reg8_setReg8_self r v s
  | mem j off => exact peekByte_segWrite8 v

theorem stores16_writePlace16 (p : Place16) (v : Word) (s : State) : Stores16 p v s (writePlace16 p v s) := by
  refine ⟨rfl, ?_⟩
  cases p with
  | reg r => exact reg16_setReg16_self r v s
  | mem j off => exact peekWord_segWrite16 v

/-- Settles O20: each form is one write to its place. -/
theorem moveToOperand : Obligations.MoveToOperand :=
  ⟨fun _ _ _ => ⟨_, rfl, stores8_writePlace8 _ _ _⟩, fun _ _ _ => ⟨_, rfl, stores16_writePlace16 _ _ _⟩,
    fun _ _ _ => ⟨_, rfl, stores16_writePlace16 _ _ _⟩, fun _ _ _ => ⟨_, rfl, stores8_writePlace8 _ _ _⟩,
    fun _ _ _ => ⟨_, rfl, stores16_writePlace16 _ _ _⟩, fun _ _ => ⟨_, rfl, stores8_writePlace8 (.mem _ _) _ _⟩,
    fun _ _ => ⟨_, rfl, stores16_writePlace16 (.mem _ _) _ _⟩⟩

/-! ## Loads of a register (40_data_transfer R131 to R145) -/

theorem loadReg8_result (reg : Reg8) (v : Byte × State) :
    (loadReg8 reg v).reg8 reg = v.1 ∧ loadReg8 reg v = setReg8 reg ((loadReg8 reg v).reg8 reg) v.2 := by
  have h : (loadReg8 reg v).reg8 reg = v.1 := reg8_setReg8_self reg v.1 v.2
  exact ⟨h, by rw [h]; rfl⟩

theorem loadReg16_result (reg : Reg16) (v : Word × State) :
    (loadReg16 reg v).reg16 reg = v.1 ∧ loadReg16 reg v = setReg16 reg ((loadReg16 reg v).reg16 reg) v.2 := by
  have h : (loadReg16 reg v).reg16 reg = v.1 := reg16_setReg16_self reg v.1 v.2
  exact ⟨h, by rw [h]; rfl⟩

/-- The byte registers are the halves of AX, CX, DX and BX (10_state R21). -/
theorem reg8_halves (s : State) :
    (s.reg8 .al).toNat = s.regs.ax.toNat % 256 ∧ (s.reg8 .cl).toNat = s.regs.cx.toNat % 256 ∧
    (s.reg8 .dl).toNat = s.regs.dx.toNat % 256 ∧ (s.reg8 .bl).toNat = s.regs.bx.toNat % 256 ∧
    (s.reg8 .ah).toNat = s.regs.ax.toNat / 256 ∧ (s.reg8 .ch).toNat = s.regs.cx.toNat / 256 ∧
    (s.reg8 .dh).toNat = s.regs.dx.toNat / 256 ∧ (s.reg8 .bh).toNat = s.regs.bx.toNat / 256 :=
  ⟨loByte_toNat _, loByte_toNat _, loByte_toNat _, loByte_toNat _, hiByte_toNat _, hiByte_toNat _, hiByte_toNat _,
    hiByte_toNat _⟩

/-- No byte register is half of SP, BP, SI or DI. -/
theorem reg16_setReg8_of_whole {r : Reg16} (hr : r ∈ [Reg16.sp, .bp, .si, .di]) (reg : Reg8) (v : Byte) (s : State) :
    (setReg8 reg v s).reg16 r = s.reg16 r := by
  refine reg16_setReg16_ne (fun h => ?_) _ s
  subst h
  cases reg <;> simp [wholeOf] at hr

/-- Settles O21: loads of a register, and the byte registers as halves. -/
theorem moveToRegister : Obligations.MoveToRegister := by
  refine ⟨fun _ _ _ => ⟨_, rfl, loadReg8_result _ _⟩, fun _ _ _ => ⟨_, rfl, loadReg16_result _ _⟩,
    fun _ _ => ⟨_, rfl, loadReg8_result _ _⟩, fun _ _ => ⟨_, rfl, loadReg16_result .ax _⟩,
    fun _ _ _ => ⟨_, rfl, reg8_setReg8_self _ _ _, rfl⟩, fun _ _ _ => ⟨_, rfl, reg16_setReg16_self _ _ _, rfl⟩,
    fun s => ?_, reg8_halves,
    fun s reg v => ⟨reg8_setReg8_self _ _ _, fun _ hb => reg8_setReg8_ne hb _ _, fun _ hr => reg16_setReg8_of_whole hr _ _ _⟩⟩
  rw [xlatOffset]
  exact ⟨_, rfl, (loadReg8_result .al _).2, (loadReg8_result .al _).1⟩

/-! ## Segment registers (40_data_transfer R133, R151) -/

/-- A load of a segment register, whatever it was read from. -/
theorem loadSreg_result {j : SReg} {f : Word → Segs} {s : State} {v : Word × State} (hv : v.2.segs = s.segs)
    (hf : ∀ w : Word, (setSreg j w s).segs = f w) :
    (loadSreg j v).noint = true ∧ (loadSreg j v).segs = f v.1 ∧
      loadSreg j v = { v.2 with segs := (loadSreg j v).segs, noint := true } := by
  refine ⟨rfl, ?_, by cases j <;> rfl⟩
  rw [← hf]
  cases j <;> simp [loadSreg, setSreg, hv]

/-- Settles O22: all six are `loadSreg` of what was read or popped. -/
theorem segmentLoads : Obligations.SegmentLoads := by
  intro s
  have hr : ∀ rm, (operand16 rm s).2.segs = s.segs := fun rm => readPlace16_segs _ s
  have hp : (popped s).2.segs = s.segs := segRead16_segs _ _ s
  refine ⟨fun rm => ⟨_, rfl, loadSreg_result (hr rm) fun _ => rfl⟩, fun rm => ⟨_, rfl, loadSreg_result (hr rm) fun _ => rfl⟩,
    fun rm => ⟨_, rfl, loadSreg_result (hr rm) fun _ => rfl⟩, ?_⟩
  rw [← pop_eq_popped] at hp ⊢
  exact ⟨⟨_, rfl, loadSreg_result hp fun _ => rfl⟩, ⟨_, rfl, loadSreg_result hp fun _ => rfl⟩,
    ⟨_, rfl, loadSreg_result hp fun _ => rfl⟩⟩

/-! ## XCHG (40_data_transfer R139 to R141) -/

theorem xchgPlace8_eq (p : Place8) (reg : Reg8) (s : State) :
    xchgPlace8 p reg s = writePlace8 p (s.reg8 reg) (setReg8 reg (readPlace8 p s).1 (readPlace8 p s).2) := by
  simp only [xchgPlace8, readPlace8_reg8]

theorem xchgPlace16_eq (p : Place16) (reg : Reg16) (s : State) :
    xchgPlace16 p reg s = writePlace16 p (s.reg16 reg) (setReg16 reg (readPlace16 p s).1 (readPlace16 p s).2) := by
  simp only [xchgPlace16, readPlace16_reg16]

theorem xchgPlace8_regs (r1 r2 : Reg8) (s : State) :
    (xchgPlace8 (.reg r1) r2 s).reg8 r1 = s.reg8 r2 ∧ (xchgPlace8 (.reg r1) r2 s).reg8 r2 = s.reg8 r1 := by
  rw [xchgPlace8_eq]
  refine ⟨reg8_setReg8_self _ _ _, ?_⟩
  by_cases h : r2 = r1
  · rw [h]
    exact reg8_setReg8_self _ _ _
  · exact (reg8_setReg8_ne h _ _).trans (reg8_setReg8_self _ _ _)

theorem xchgPlace16_regs (r1 r2 : Reg16) (s : State) :
    (xchgPlace16 (.reg r1) r2 s).reg16 r1 = s.reg16 r2 ∧ (xchgPlace16 (.reg r1) r2 s).reg16 r2 = s.reg16 r1 := by
  rw [xchgPlace16_eq]
  refine ⟨reg16_setReg16_self _ _ _, ?_⟩
  by_cases h : r2 = r1
  · rw [h]
    exact reg16_setReg16_self _ _ _
  · exact (reg16_setReg16_ne h _ _).trans (reg16_setReg16_self _ _ _)

/-- Settles O23: the exchange reads both operands first; for two registers the second write decides. -/
theorem exchangeResults : Obligations.ExchangeResults := by
  refine ⟨fun s rm reg => exec_of_eq rfl (xchgPlace8_eq _ reg s), fun s rm reg => exec_of_eq rfl (xchgPlace16_eq _ reg s),
    fun s r1 r2 => ⟨_, rfl, xchgPlace16_regs r1 r2 s⟩, fun s r1 r2 => ⟨_, rfl, xchgPlace8_regs r1 r2 s⟩,
    fun s reg => ⟨_, rfl, ?_, reg16_setReg16_self reg _ _, by cases reg <;> rfl⟩, fun _ => rfl⟩
  cases reg <;> rfl

/-! ## Effective addresses (30_encoding R96, R97; 20_memory R66) -/

theorem baseSum_eq (b : Base) (s : State) : baseSum b s = BitVec.ofInt 16 (eaSum (.plain b) s) := by
  cases b <;> simp [baseSum, eaSum, BitVec.ofInt_add]

/-- The offset is the exact sum of base registers and displacement, modulo 2^16. -/
theorem eaOff_eq (m : MemRef) (s : State) : eaOff m s = BitVec.ofInt 16 (eaSum m s) := by
  cases m with
  | plain b => exact baseSum_eq b s
  | direct d => simp [eaOff, eaSum]
  | disp8 b d =>
    rw [eaOff, baseSum_eq, show eaSum (.disp8 b d) s = eaSum (.plain b) s + d.toInt from rfl, BitVec.ofInt_add,
      ← sext16_toInt, BitVec.ofInt_toInt]
  | disp16 b d =>
    rw [eaOff, baseSum_eq, show eaSum (.disp16 b d) s = eaSum (.plain b) s + d.toNat from rfl, BitVec.ofInt_add,
      BitVec.ofInt_natCast, BitVec.ofNat_toNat, BitVec.setWidth_eq]

theorem defaultSeg_eq (m : MemRef) : defaultSeg m = if usesBP m then .ss else .ds := by
  cases m with
  | direct d => rfl
  | plain b | disp8 b d | disp16 b d => cases b <;> rfl

/-- The far pointer at the effective address, its segment word two bytes on (30_encoding R98). -/
theorem readFar_eq (m : MemRef) (s : State) :
    let o := segRead16 (eaSeg m s) (BitVec.ofInt 16 (eaSum m s)) s
    let g := segRead16 (eaSeg m s) (BitVec.ofInt 16 (eaSum m s + 2)) o.2
    readFar m s = ((o.1, g.1), g.2) := by
  have h2 : BitVec.ofInt 16 (eaSum m s + 2) = eaOff m s + 2 := by
    rw [BitVec.ofInt_add, eaOff_eq]
    rfl
  rw [h2, ← eaOff_eq]
  rfl

/-- LDS and LES write the general register and the segment register after both reads. -/
theorem loadFar_eq (j : SReg) (reg : Reg16) (o g : Word) (s : State) :
    loadFar j reg ((o, g), s) = setReg16 reg o (setSreg j g s) := by
  cases j <;> cases reg <;> rfl

/-- Settles O24: the base sums modulo 2^16 are the exact sums reduced, and the default segment is SS for a base with BP. -/
theorem effectiveAddressResults : Obligations.EffectiveAddressResults := by
  refine ⟨fun s m => ?_, fun s reg m => ?_, fun s reg m => ?_⟩
  · rw [← eaOff_eq, ← defaultSeg_eq]
    exact ⟨rfl, rfl⟩
  · rw [← eaOff_eq]
    rfl
  · intro o g
    have hsegs : g.2.segs = s.segs := (segRead16_segs _ _ _).trans (segRead16_segs _ _ _)
    have hfar : readFar m s = ((o.1, g.1), g.2) := readFar_eq m s
    have hload (j : SReg) : loadFar j reg (readFar m s) = setReg16 reg o.1 (setSreg j g.1 g.2) := by rw [hfar, loadFar_eq]
    rw [← hsegs]
    refine ⟨exec_of_eq rfl (hload .ds), exec_of_eq rfl (hload .es), ?_⟩
    rw [setReg16_noint]
    exact (segRead16_noint _ _ _).trans (segRead16_noint _ _ _)

/-! ## The stack (40_data_transfer R146 to R155) -/

theorem pushed_push (v : Word) (s : State) : Pushed v s (push v s) :=
  ⟨segWrite16_regs _ _ _ _, rfl, fun hw h => by
    rw [show (push v s).regs.sp = s.regs.sp - 2 from congrArg Regs.sp (segWrite16_regs _ _ _ _)]
    exact peekWord_segWrite16 v (s := setReg16 .sp (s.regs.sp - 2) s) hw h⟩

/-- PUSH SP stores the decremented SP, in either form. -/
theorem pushPlace16_reg (reg : Reg16) (s : State) :
    pushPlace16 (.reg reg) s = push (if reg = .sp then s.regs.sp - 2 else s.reg16 reg) s := by
  cases reg <;> rfl

theorem pushed_pushPlace16_reg (reg : Reg16) (s : State) :
    Pushed (if reg = .sp then s.regs.sp - 2 else s.reg16 reg) s (pushPlace16 (.reg reg) s) := by
  rw [pushPlace16_reg]
  exact pushed_push _ s

/-- Settles O25: every push is `push` of its operand, the decremented SP for SP. -/
theorem pushResults : Obligations.PushResults := by
  exact fun s => ⟨⟨_, rfl, pushed_push _ s⟩, ⟨_, rfl, pushed_push _ s⟩, ⟨_, rfl, pushed_push _ s⟩, ⟨_, rfl, pushed_push _ s⟩,
    ⟨_, rfl, pushed_push _ s⟩, fun reg => ⟨_, exec_of_eq rfl (pushR16_eq reg s), pushed_pushPlace16_reg reg s⟩,
    fun reg => ⟨_, rfl, pushed_pushPlace16_reg reg s⟩, fun m => ⟨_, rfl, pushed_push _ _⟩⟩

/-- A pop off the devices. -/
theorem popped_of_quiet {s : State} (h : quiet (segBytes .ss s.regs.sp 2 s) s = true) :
    popped s = (peekWord .ss s.regs.sp s, { s with regs := { s.regs with sp := s.regs.sp + 2 } }) := by
  rw [popped, segRead16_of_quiet h]

/-- A flag is its bit of FLAGS (10_state R26). -/
theorem getFlag_eq_getLsbD (f : Word) (x : Flag) : getFlag x f = f.getLsbD (flagBit x) := rfl

theorem flagBit_allFlags : [Flag.CF, .PF, .AF, .ZF, .SF, .TF, .IF, .DF, .OF].map flagBit = [0, 2, 4, 6, 7, 8, 9, 10, 11] := rfl

/-- Settles O26: every pop is the one of `popped`, then the write; POPF is a whole write of FLAGS. -/
theorem popResults : Obligations.PopResults := by
  refine fun s => ⟨popped_of_quiet, fun reg => ?_, fun rm => ?_, ?_, flagBit_allFlags, getFlag_eq_getLsbD⟩
  · rw [← pop_eq_popped]
    exact ⟨_, rfl, reg16_setReg16_self reg _ _, rfl⟩
  · rw [← pop_eq_popped]
    exact ⟨_, rfl, stores16_writePlace16 _ _ _⟩
  · rw [← pop_eq_popped]
    refine ⟨_, rfl, fun k hk => ?_, flagsFixed_wholeFlags _, rfl, fun x => getFlag_wholeFlags x _⟩
    rw [← flagBit_allFlags] at hk
    obtain ⟨x, -, rfl⟩ := List.mem_map.mp hk
    exact getFlag_wholeFlags x _

/-! ## Jumps, calls and returns (45_control_transfer R266 to R278) -/

/-- A displacement of 16 bits, on numbers (45_control_transfer R260). -/
theorem ofNat_toNat_add_toNat (pc rel : Word) : BitVec.ofNat 16 (pc.toNat + rel.toNat) = pc + rel := by
  simp [BitVec.ofNat_add]

theorem jumpFar_eq (off seg : Word) (s : State) :
    jumpFar off seg s = { s with pc := off, segs := { s.segs with cs := seg } } := rfl

/-- Settles O35: the targets on numbers are the model's sums modulo 2^16; a far pointer is read before pc and CS change. -/
theorem jumpResults : Obligations.JumpResults := by
  refine fun s => ⟨fun rel => ?_, fun rel => ?_, fun off seg => rfl, fun rm => rfl, fun m => ?_⟩
  · rw [show BitVec.ofInt 16 (s.pc.toNat + rel.toInt) = shortTarget s.pc rel from rfl, ← add_sext16]
    rfl
  · rw [ofNat_toNat_add_toNat]
    rfl
  · intro o g
    have hsegs : g.2.segs = s.segs := (segRead16_segs _ _ _).trans (segRead16_segs _ _ _)
    have hfar : readFar m s = ((o.1, g.1), g.2) := readFar_eq m s
    have hjump : jumpPointer (readFar m s) = { g.2 with pc := o.1, segs := { g.2.segs with cs := g.1 } } := by
      rw [hfar]
      rfl
    rw [← hsegs]
    exact exec_of_eq rfl hjump

/-- A far call pushes CS and pc and leaves the other segment registers. -/
theorem callFarTo_eq (off seg : Word) (s : State) :
    callFarTo off seg s =
      { push s.pc (push s.segs.cs s) with pc := off, segs := { s.segs with cs := seg } } := by
  rw [callFarTo, jumpFar_eq, push_segs, push_segs]

/-- Settles O36: each call is its pushes and then the jump, with pc and CS as they were at the start. -/
theorem callResults : Obligations.CallResults := by
  refine fun s => ⟨fun rel => ⟨push s.pc s, ?_, pushed_push _ s⟩, fun rm => ⟨push s.pc (operand16 rm s).2, ?_, pushed_push _ _⟩,
    fun off seg => ⟨push s.segs.cs s, push s.pc (push s.segs.cs s), exec_of_eq rfl (callFarTo_eq off seg s), pushed_push _ _,
      pushed_push _ _⟩, fun m => ?_⟩
  · have hcall : jumpRel rel (push s.pc s) = { push s.pc s with pc := s.pc + rel } := by rw [jumpRel, push_pc]; rfl
    rw [ofNat_toNat_add_toNat]
    exact exec_of_eq rfl hcall
  · have hcall : callNear (operand16 rm s) = { push s.pc (operand16 rm s).2 with pc := (operand16 rm s).1 } := by
      rw [callNear, show (operand16 rm s).2.pc = s.pc from readPlace16_pc _ s]
      rfl
    exact exec_of_eq rfl hcall
  · intro o g
    have hsegs : g.2.segs = s.segs := (segRead16_segs _ _ _).trans (segRead16_segs _ _ _)
    have hpc : g.2.pc = s.pc := (segRead16_pc _ _ _).trans (segRead16_pc _ _ _)
    have hfar : readFar m s = ((o.1, g.1), g.2) := readFar_eq m s
    rw [← hsegs, ← hpc]
    refine ⟨push g.2.segs.cs g.2, push g.2.pc (push g.2.segs.cs g.2), ?_, pushed_push _ _, pushed_push _ _⟩
    have hcall : callPointer (readFar m s) = callFarTo o.1 g.1 g.2 := by rw [hfar]; rfl
    exact exec_of_eq rfl (hcall.trans (callFarTo_eq o.1 g.1 g.2))

/-- A far return: two pops; the other segment registers stay. -/
theorem returnFar_eq (s : State) :
    returnFar s = { (popped (popped s).2).2 with
      pc := (popped s).1, segs := { s.segs with cs := (popped (popped s).2).1 } } := by
  simp only [returnFar, jumpFar_eq, pop_segs, ← pop_eq_popped]

/-- Settles O37: near and far returns are one and two pops; the forms with a count move SP on. -/
theorem returnResults : Obligations.ReturnResults := by
  intro s near second far
  have hnear : jumpNear (pop s) = near := by rw [pop_eq_popped]; rfl
  have hfar : returnFar s = far := returnFar_eq s
  have hsp : s.regs.sp + 2 + 2 = s.regs.sp + 4 := BitVec.add_assoc _ 2 2
  have hfarSp : far.regs.sp = s.regs.sp + 4 := hsp
  refine ⟨exec_of_eq rfl hnear, fun cnt => ?_, exec_of_eq rfl hfar, fun cnt => ?_⟩
  · have h : releaseStack cnt (jumpNear (pop s)) = releaseStack cnt near := by rw [hnear]
    exact exec_of_eq rfl h
  · have h : releaseStack cnt (returnFar s) = { far with regs := { far.regs with sp := s.regs.sp + 4 + cnt } } := by
      rw [hfar, ← hfarSp]
      rfl
    exact exec_of_eq rfl h

end Sys2Proof.Proofs
end

section
/-! The stack in RAM, and what stands on it: calls and traps, their returns, and the traps an InterruptCheck takes
(45_control_transfer R271 to R282; 60_exceptions R321, R328). -/

namespace Sys2Proof.Proofs

open Sys2Proof Sys2Proof.Machine Sys2Proof.Laws

/-! ## A stretch of RAM -/

/-- `onRam` of a stretch, index by index. -/
theorem onRam_segBytes_iff {j : SReg} {off : Word} {n : Nat} {s : State} : onRam (segBytes j off n s) s = true ↔
    (∀ k < n, (writeCell s.map (phys (s.sreg j) (off + BitVec.ofNat 16 k))).isSome = true) ∧
      ∀ i < n, ∀ k < n, writeCell s.map (phys (s.sreg j) (off + BitVec.ofNat 16 i)) =
        writeCell s.map (phys (s.sreg j) (off + BitVec.ofNat 16 k)) → i = k := by
  rw [onRam_iff, segBytes, List.map_map, List.nodup_map_iff_inj_on List.nodup_range]
  simp

theorem add_ofNat_add (off : Word) (i k : Nat) :
    off + BitVec.ofNat 16 i + BitVec.ofNat 16 k = off + BitVec.ofNat 16 (i + k) := by
  rw [BitVec.add_assoc, ← BitVec.ofNat_add]

theorem onRam_segBytes_congr {j : SReg} {s t : State} (hm : t.map = s.map) (hj : t.sreg j = s.sreg j) (off : Word) (n : Nat) :
    onRam (segBytes j off n t) t = onRam (segBytes j off n s) s := by
  rw [segBytes_congr hj, onRam_congr hm]

/-- A part of a stretch of RAM. -/
theorem onRam_within {j : SReg} {off : Word} {n i m : Nat} {s : State} (h : onRam (segBytes j off n s) s = true)
    (hi : i + m ≤ n) : onRam (segBytes j (off + BitVec.ofNat 16 i) m s) s = true := by
  obtain ⟨hs, hinj⟩ := onRam_segBytes_iff.mp h
  simp only [onRam_segBytes_iff, add_ofNat_add]
  refine ⟨fun k hk => hs _ (by omega), fun a ha b hb e => ?_⟩
  have := hinj (i + a) (by omega) (i + b) (by omega) e
  omega

theorem peekWord_congr {j : SReg} {off : Word} {s t : State} (hm : t.map = s.map) (hj : t.sreg j = s.sreg j)
    (hmem : t.mem = s.mem) : peekWord j off t = peekWord j off s := by
  simp only [peekWord, peekByte, hj, peek8_eq hm hmem]

/-- Stores to one part of a stretch of RAM leave the words of the rest. -/
theorem peekWord_of_stores {j : SReg} {off : Word} {n i m k : Nat} {s t : State}
    (h : onRam (segBytes j off n s) s = true) (hst : Stores (segBytes j (off + BitVec.ofNat 16 i) m s) s t)
    (hj : t.sreg j = s.sreg j) (hi : i + m ≤ k) (hk : k + 2 ≤ n) :
    peekWord j (off + BitVec.ofNat 16 k) t = peekWord j (off + BitVec.ofNat 16 k) s := by
  obtain ⟨hs, hinj⟩ := onRam_segBytes_iff.mp h
  have hbyte : ∀ b < n, i + m ≤ b →
      peek8 (phys (s.sreg j) (off + BitVec.ofNat 16 b)) t = peek8 (phys (s.sreg j) (off + BitVec.ofNat 16 b)) s := by
    intro b hb hib
    refine hst.peek8 fun a ha => .inr (writeCell_ne_readCell (hs b hb) fun e => ?_)
    simp only [segBytes, List.mem_map, List.mem_range] at ha
    obtain ⟨c, hc, rfl⟩ := ha
    rw [add_ofNat_add] at e
    have := hinj (i + c) (by omega) b hb e
    omega
  have h1 : off + BitVec.ofNat 16 k + 1 = off + BitVec.ofNat 16 (k + 1) := add_ofNat_add off k 1
  simp only [peekWord, peekByte, hj, h1, hbyte k (by omega) hi, hbyte (k + 1) (by omega) (by omega)]

/-! ## A stack in RAM -/

/-- The `n` bytes from SS:`base` up are RAM, no two the same byte of a store, and memory is in canonical form. -/
structure RamStack (base : Word) (n : Nat) (s : State) : Prop where
  wf : Memory.wf s.mem = true
  ram : onRam (segBytes .ss base n s) s = true

/-- The state with another SP and other stores. -/
def atStack (sp : Word) (m : Memory) (s : State) : State := { s with regs := { s.regs with sp := sp }, mem := m }

theorem popped_at_ram {s : State} (h : onRam (segBytes .ss s.regs.sp 2 s) s = true) :
    popped s = (peekWord .ss s.regs.sp s, atStack (s.regs.sp + 2) s.mem s) := popped_of_quiet (quiet_of_onRam h)

namespace RamStack

variable {base : Word} {n i : Nat} {s t : State}

theorem of_same (h : RamStack base n s) (hm : t.map = s.map) (hj : t.sreg .ss = s.sreg .ss)
    (hmem : t.mem = s.mem) : RamStack base n t :=
  ⟨by rw [hmem]; exact h.wf, by rw [onRam_segBytes_congr hm hj]; exact h.ram⟩

theorem push (h : RamStack base n s) (v : Word) : RamStack base n (push v s) :=
  ⟨push_mem_wf v h.wf, by rw [onRam_segBytes_congr (push_map v s) (push_sreg v s .ss)]; exact h.ram⟩

/-- The word at a slot of the stack, popped. -/
theorem popped (h : RamStack base n s) (hi : i + 2 ≤ n) (hsp : s.regs.sp = base + BitVec.ofNat 16 i) :
    popped s = (peekWord .ss (base + BitVec.ofNat 16 i) s, atStack (base + BitVec.ofNat 16 (i + 2)) s.mem s) := by
  have hram := onRam_within h.ram hi
  rw [← hsp] at hram
  have h2 : s.regs.sp + 2 = base + BitVec.ofNat 16 (i + 2) := by rw [hsp]; exact add_ofNat_add base i 2
  rw [popped_at_ram hram, h2, hsp]

/-- The next word popped after it. -/
theorem popped_atStack (h : RamStack base n s) (hi : i + 2 ≤ n) :
    Machine.popped (atStack (base + BitVec.ofNat 16 i) s.mem s) =
      (peekWord .ss (base + BitVec.ofNat 16 i) s, atStack (base + BitVec.ofNat 16 (i + 2)) s.mem s) :=
  (h.of_same (t := atStack (base + BitVec.ofNat 16 i) s.mem s) rfl rfl rfl).popped hi rfl

theorem push_eq (h : RamStack base n s) (hi : i + 2 ≤ n) (hsp : s.regs.sp - 2 = base + BitVec.ofNat 16 i) (v : Word) :
    Machine.push v s = atStack (base + BitVec.ofNat 16 i) (Machine.push v s).mem s := by
  have hram := onRam_within h.ram hi
  rw [← hsp] at hram ⊢
  exact push_of_quiet v (quiet_of_onRam hram)

theorem peekWord_push (h : RamStack base n s) (hi : i + 2 ≤ n) (hsp : s.regs.sp - 2 = base + BitVec.ofNat 16 i) (v : Word) :
    peekWord .ss (base + BitVec.ofNat 16 i) (Machine.push v s) = v := by
  have hram := onRam_within h.ram hi
  rw [← hsp] at hram ⊢
  exact peekWord_segWrite16 v (s := setReg16 .sp (s.regs.sp - 2) s) h.wf hram

/-- A push leaves the words above. -/
theorem peekWord_push_above (h : RamStack base n s) (hsp : s.regs.sp - 2 = base + BitVec.ofNat 16 i) (v : Word) {k : Nat}
    (hk : i + 2 ≤ k) (hn : k + 2 ≤ n) :
    peekWord .ss (base + BitVec.ofNat 16 k) (Machine.push v s) = peekWord .ss (base + BitVec.ofNat 16 k) s :=
  peekWord_of_stores h.ram (stores_push (by rw [hsp]; exact fun _ ha => ha) v) (push_sreg v s .ss) hk hn

/-- After a push SP is at its slot. -/
theorem sp_after_push (hsp : s.regs.sp - 2 = base + BitVec.ofNat 16 (i + 2)) (v : Word) :
    (Machine.push v s).regs.sp - 2 = base + BitVec.ofNat 16 i := by
  rw [push_regs, hsp, ← add_ofNat_add]
  exact BitVec.add_sub_cancel _ 2

/-- Two words pushed: both stand on the stack, the words above them stay. -/
theorem push_push (h : RamStack base n s) (hi : i + 4 ≤ n) (hsp : s.regs.sp - 2 = base + BitVec.ofNat 16 (i + 2))
    (v w : Word) :
    Machine.push w (Machine.push v s) = atStack (base + BitVec.ofNat 16 i) (Machine.push w (Machine.push v s)).mem s ∧
      peekWord .ss (base + BitVec.ofNat 16 i) (Machine.push w (Machine.push v s)) = w ∧
      peekWord .ss (base + BitVec.ofNat 16 (i + 2)) (Machine.push w (Machine.push v s)) = v ∧
      ∀ k, i + 4 ≤ k → k + 2 ≤ n → peekWord .ss (base + BitVec.ofNat 16 k) (Machine.push w (Machine.push v s)) =
        peekWord .ss (base + BitVec.ofNat 16 k) s := by
  have hsp' := sp_after_push hsp v
  have h1 := h.push v
  have hfirst := h.push_eq (by omega) hsp v
  refine ⟨?_, h1.peekWord_push (by omega) hsp' w, ?_, fun k hk hn => ?_⟩
  · have hsecond := h1.push_eq (by omega) hsp' w
    rw [hsecond, hfirst]
    rfl
  · rw [h1.peekWord_push_above hsp' w (Nat.le_refl _) (by omega), h.peekWord_push (by omega) hsp v]
  · rw [h1.peekWord_push_above hsp' w (by omega) hn, h.peekWord_push_above hsp v (by omega) hn]

end RamStack

/-! ## A call returns (45_control_transfer R271, R272, R275, R277) -/

theorem sub_two_eq (x : Word) : x - 4 + 2 = x - 2 := by bv_omega

theorem call_then_ret (rel : Word) {s : State} (h : RamStack (s.regs.sp - 2) 2 s) :
    jumpNear (pop (jumpRel rel (push s.pc s))) = { s with mem := (push s.pc s).mem } := by
  have hbase : s.regs.sp - 2 = s.regs.sp - 2 + BitVec.ofNat 16 0 := (BitVec.add_zero _).symm
  have hpush := h.push_eq (i := 0) (by omega) hbase s.pc
  have hword := h.peekWord_push (i := 0) (by omega) hbase s.pc
  have ht : RamStack (s.regs.sp - 2) 2 (jumpRel rel (push s.pc s)) := (h.push s.pc).of_same rfl rfl rfl
  have hsp : (jumpRel rel (push s.pc s)).regs.sp = s.regs.sp - 2 + BitVec.ofNat 16 0 := by
    rw [jumpRel, setPc, hpush]
    rfl
  have hpop := ht.popped (i := 0) (by omega) hsp
  rw [peekWord_congr (s := push s.pc s) (t := jumpRel rel (push s.pc s)) rfl rfl rfl, hword] at hpop
  have hback : s.regs.sp - 2 + BitVec.ofNat 16 (0 + 2) = s.regs.sp := BitVec.sub_add_cancel _ 2
  rw [pop_eq_popped, hpop, hback, jumpRel, hpush]
  rfl

theorem farCall_then_retf (off seg : Word) {s : State} (h : RamStack (s.regs.sp - 4) 4 s) :
    returnFar (callFarTo off seg s) = { s with mem := (push s.pc (push s.segs.cs s)).mem } := by
  have hbase : s.regs.sp - 2 = s.regs.sp - 4 + BitVec.ofNat 16 (0 + 2) := (sub_two_eq _).symm
  obtain ⟨hpush, hpc, hcs, -⟩ := h.push_push (i := 0) (by omega) hbase s.segs.cs s.pc
  have ht : RamStack (s.regs.sp - 4) 4 (callFarTo off seg s) := ((h.push s.segs.cs).push s.pc).of_same rfl rfl rfl
  have hpop1 := ht.popped (i := 0) (by omega) (by rw [callFarTo_eq, hpush]; rfl)
  have hpop2 := ht.popped_atStack (i := 2) (by omega)
  rw [peekWord_congr (s := push s.pc (push s.segs.cs s)) (t := callFarTo off seg s) rfl rfl rfl] at hpop1 hpop2
  rw [hpc] at hpop1
  rw [hcs] at hpop2
  have hback : s.regs.sp - 4 + BitVec.ofNat 16 (2 + 2) = s.regs.sp := BitVec.sub_add_cancel _ 4
  rw [returnFar_eq, hpop1, hpop2, hback, callFarTo_eq, hpush]
  rfl

/-- Settles O38: the slots are RAM, so what was pushed is popped, and SP comes back. -/
theorem callReturnRoundTrip : Obligations.CallReturnRoundTrip := by
  refine fun s hw => ⟨fun rel hram => ⟨_, _, rfl, rfl, ?_⟩, fun off seg hram => ⟨_, _, rfl, rfl, ?_⟩⟩
  · exact call_then_ret rel ⟨hw, hram⟩
  · exact farCall_then_retf off seg ⟨hw, hram⟩

/-! ## The trap (60_exceptions R321) -/

theorem trapPushed_of_ram {s : State} (h : RamStack (s.regs.sp - 6) 6 s) (ret : Word) :
    trapPushed ret s = { atStack (s.regs.sp - 6) (trapPushed ret s).mem s with
      flags := putFlag .TF false (putFlag .IF false s.flags) } ∧
      peekWord .ss (s.regs.sp - 6) (trapPushed ret s) = ret ∧
      peekWord .ss (s.regs.sp - 6 + 2) (trapPushed ret s) = s.segs.cs ∧
      peekWord .ss (s.regs.sp - 6 + 4) (trapPushed ret s) = s.flags := by
  have hbase : s.regs.sp - 2 = s.regs.sp - 6 + BitVec.ofNat 16 (2 + 2) := by bv_omega
  have hpush := h.push_eq (by omega) hbase s.flags
  have hflags := h.peekWord_push (by omega) hbase s.flags
  have hsp := RamStack.sp_after_push hbase s.flags
  have h2 : RamStack (s.regs.sp - 6) 6 (setFlag .TF false (setFlag .IF false (push s.flags s))) :=
    (h.push s.flags).of_same rfl rfl rfl
  obtain ⟨heq, hret, hcs, habove⟩ := h2.push_push (i := 0) (by omega) hsp s.segs.cs ret
  have hzero : s.regs.sp - 6 + BitVec.ofNat 16 0 = s.regs.sp - 6 := BitVec.add_zero _
  rw [hzero] at heq hret
  refine ⟨?_, hret, hcs, ?_⟩
  · refine heq.trans ?_
    rw [show trapPushed ret s = push ret (push s.segs.cs (setFlag .TF false (setFlag .IF false (push s.flags s)))) from rfl,
      hpush]
    rfl
  · exact (habove 4 (by omega) (by omega)).trans hflags

/-- A word of the vector-table entry, read off the devices. -/
theorem memRead_two_of_quiet {n : Byte} {s : State} (h : quiet (vectorBytes n) s = true) {i : Nat} (hi : i ≤ 2) :
    BitVec.ofNat 16 (memRead (Config.ivtBase + 4 * n.toNat + i) 2 s).1 =
      wordOf (peek8 (BitVec.ofNat 20 (4 * n.toNat + i)) s) (peek8 (BitVec.ofNat 20 (4 * n.toNat + (i + 1))) s) := by
  have hq : ∀ k < 4, isDevice s.map (BitVec.ofNat 20 (4 * n.toNat + k)) = false := fun k hk =>
    quiet_iff.mp h _ (List.mem_map.mpr ⟨k, List.mem_range.mpr hk, rfl⟩)
  apply BitVec.eq_of_toNat_eq
  simp only [Config.ivtBase, Nat.zero_add, memRead, Nat.add_assoc, read8_of_not_isDevice (hq i (by omega)),
    read8_of_not_isDevice (hq (i + 1) (by omega)), wordOf_toNat, BitVec.toNat_ofNat]
  have h0 := (peek8 (BitVec.ofNat 20 (4 * n.toNat + i)) s).isLt
  have h1 := (peek8 (BitVec.ofNat 20 (4 * n.toNat + (i + 1))) s).isLt
  omega

/-- A trap whose vector-table entry calls no device. -/
theorem trap_of_quiet {n : Byte} (ret : Word) {s : State} (hv : quiet (vectorBytes n) s = true) :
    trap n ret s =
      setSreg .cs (wordOf (peek8 (BitVec.ofNat 20 (4 * n.toNat + 2)) (trapPushed ret s))
          (peek8 (BitVec.ofNat 20 (4 * n.toNat + 3)) (trapPushed ret s)))
        (setPc (wordOf (peek8 (BitVec.ofNat 20 (4 * n.toNat)) (trapPushed ret s))
          (peek8 (BitVec.ofNat 20 (4 * n.toNat + 1)) (trapPushed ret s))) (trapPushed ret s)) := by
  have hv' : quiet (vectorBytes n) (trapPushed ret s) = true := by rwa [quiet_congr (trapPushed_map ret s)]
  have h0 : (memRead (Config.ivtBase + 4 * n.toNat) 2 (trapPushed ret s)).2 = trapPushed ret s :=
    memRead_vector_of_quiet hv' (i := 0) (by omega)
  have h2 := memRead_vector_of_quiet hv' (i := 2) (by omega)
  have w0 := memRead_two_of_quiet hv' (i := 0) (by omega)
  have w2 := memRead_two_of_quiet hv' (i := 2) (by omega)
  simp only [Nat.add_zero] at w0
  simp only [trap_eq, h0, h2, w0, w2]

/-- After the pushes the entry of a trap writes pc and CS alone: memory is as the pushes leave it. -/
theorem trap_mem (n : Byte) (ret : Word) (s : State) : (trap n ret s).mem = (trapPushed ret s).mem := by simp [trap_eq]

theorem trap_sreg_ss (n : Byte) (ret : Word) (s : State) : (trap n ret s).sreg .ss = s.sreg .ss := by
  simp [trap_eq, trapPushed]

/-- What a trap leaves on a stack in RAM. -/
theorem trap_stack {s : State} (h : RamStack (s.regs.sp - 6) 6 s) (n : Byte) (ret : Word) :
    peekWord .ss (s.regs.sp - 6) (trap n ret s) = ret ∧ peekWord .ss (s.regs.sp - 6 + 2) (trap n ret s) = s.segs.cs ∧
      peekWord .ss (s.regs.sp - 6 + 4) (trap n ret s) = s.flags := by
  obtain ⟨-, hret, hcs, hflags⟩ := trapPushed_of_ram h ret
  have hpeek (off : Word) : peekWord .ss off (trap n ret s) = peekWord .ss off (trapPushed ret s) :=
    peekWord_congr (by simp [trapPushed_map]) ((trap_sreg_ss n ret s).trans (by simp [trapPushed])) (trap_mem n ret s)
  simp only [hpeek, hret, hcs, hflags, and_self]

/-- The entry of a trap clears IF and TF and no other flag. -/
theorem entryFlags_trap (n : Byte) (ret : Word) (s : State) : EntryFlags s.flags (trap n ret s).flags := by
  rw [trap_flags]
  exact ⟨by simp, by simp, keepsAllBut_putFlag (by simp) _ (keepsAllBut_putFlag (by simp) _ (keepsAllBut_refl _ _))⟩

/-- Every trap is entered as 60_exceptions R321 says. -/
theorem trapEntered_trap (n : Byte) (ret : Word) (s : State) : TrapEntered n ret s (trap n ret s) where
  regs := trap_regs n ret s
  segs := by simp [trap_eq, setSreg, trapPushed]
  flags := entryFlags_trap n ret s
  stack hw h := by
    rw [show (trap n ret s).regs.sp = s.regs.sp - 6 from congrArg Regs.sp (trap_regs n ret s)]
    exact trap_stack ⟨hw, h⟩ n ret
  vector h := by
    have hpeek (a : Addr) : peek8 a (trap n ret s) = peek8 a (trapPushed ret s) :=
      peek8_eq (by simp [trapPushed_map]) (trap_mem n ret s)
    simp only [hpeek]
    rw [trap_of_quiet ret h]
    exact ⟨rfl, rfl⟩
  memory _ hx := (stores_trap n ret s).peek8 hx
  rest := by simp [SameOutside, SamePlatform]
  controller h := by
    obtain ⟨hs, hv⟩ := quiet_append.mp h
    exact (sameController_iff _ _).mpr (controllerOf_trap_quiet ret hs hv)

/-- Settles O39: all of them are the one trap, or no step at all. -/
theorem softwareInterrupts : Obligations.SoftwareInterrupts := by
  refine fun s => ⟨fun vec => ⟨_, rfl, trapEntered_trap vec _ s⟩, ⟨_, rfl, trapEntered_trap 3 _ s⟩, fun h => ?_, fun h => ?_⟩
  · exact ⟨_, exec_of_eq rfl (if_pos h), trapEntered_trap 4 _ s⟩
  · exact exec_of_eq rfl (if_neg (by rw [h]; decide))

/-! ## A trap returns (60_exceptions R332) -/

/-- A trap on a stack in RAM, whose vector-table entry calls no device, leaves all but SP, pc, CS, FLAGS and memory. -/
theorem trap_of_ram {n : Byte} (ret : Word) {s : State} (h : RamStack (s.regs.sp - 6) 6 s)
    (hv : quiet (vectorBytes n) s = true) :
    ∃ pc cs f, trap n ret s =
      { atStack (s.regs.sp - 6) (trap n ret s).mem s with pc := pc, segs := { s.segs with cs := cs }, flags := f } := by
  have hentry (p : State) (cs pc f : Word) (m : Memory) (hp : p = { atStack (s.regs.sp - 6) m s with flags := f }) :
      setSreg .cs cs (setPc pc p) =
        { atStack (s.regs.sp - 6) m s with pc := pc, segs := { s.segs with cs := cs }, flags := f } := by
    rw [hp]
    rfl
  rw [trap_mem]
  exact ⟨_, _, _, (trap_of_quiet ret hv).trans (hentry _ _ _ _ _ (trapPushed_of_ram h ret).1)⟩

theorem trap_then_iret {n : Byte} {s : State} (h : RamStack (s.regs.sp - 6) 6 s) (hf : FlagsFixed s.flags)
    (hv : quiet (vectorBytes n) s = true) : trapReturn (trap n s.pc s) = { s with mem := (trap n s.pc s).mem } := by
  obtain ⟨hret, hcs, hflags⟩ := trap_stack h n s.pc
  have ht : RamStack (s.regs.sp - 6) 6 (trap n s.pc s) :=
    ⟨trap_mem_wf n s.pc h.wf, by rw [onRam_segBytes_congr (trap_map n s.pc s) (trap_sreg_ss n s.pc s)]; exact h.ram⟩
  have hzero : s.regs.sp - 6 = s.regs.sp - 6 + BitVec.ofNat 16 0 := (BitVec.add_zero _).symm
  have hpop1 := ht.popped (i := 0) (by omega) ((congrArg Regs.sp (trap_regs n s.pc s)).trans hzero)
  have hpop2 := ht.popped_atStack (i := 2) (by omega)
  have hpop3 := ht.popped_atStack (i := 4) (by omega)
  rw [← hzero, hret] at hpop1
  rw [show s.regs.sp - 6 + BitVec.ofNat 16 2 = s.regs.sp - 6 + 2 from rfl, hcs] at hpop2
  rw [show s.regs.sp - 6 + BitVec.ofNat 16 4 = s.regs.sp - 6 + 4 from rfl, hflags] at hpop3
  have hback : s.regs.sp - 6 + BitVec.ofNat 16 (4 + 2) = s.regs.sp := BitVec.sub_add_cancel _ 6
  obtain ⟨pc, cs, f, htrap⟩ := trap_of_ram (n := n) s.pc h hv
  generalize trap n s.pc s = t at *
  simp only [trapReturn_eq, hpop1, show s.regs.sp - 6 + BitVec.ofNat 16 (0 + 2) = s.regs.sp - 6 + 2 from rfl, hpop2,
    show s.regs.sp - 6 + BitVec.ofNat 16 (2 + 2) = s.regs.sp - 6 + 4 from rfl, hpop3, hback, wholeFlags_of_fixed hf]
  generalize t.mem = m at *
  rw [htrap]
  rfl

/-- Settles O41: the three words pushed are popped, and the flags popped whole were fixed. -/
theorem trapReturnRoundTrip : Obligations.TrapReturnRoundTrip :=
  fun _ _ hw hf hram hv => ⟨_, _, rfl, exec_iret _, trap_then_iret ⟨hw, hram⟩ hf hv⟩

/-! ## InterruptCheck (60_exceptions R328) -/

/-- Settles O57: the four branches of InterruptCheck, each acceptance the trap from its entry state. -/
theorem interruptCheckCases : Obligations.InterruptCheckCases := by
  refine fun s => ⟨fun hn => by simp [interruptCheck, hn], fun hn hp => ?_, fun hn hp hi hf => ?_, fun hn hp hi => ?_⟩
  · refine ⟨nmiEntry s, _, ?_, trapEntered_trap nmiVector s.pc _, ?_, ?_⟩
    · rw [← acceptNmi_eq]
      simp [interruptCheck, hn, pendingNmi, hp]
    · rw [nmiEntry_eq]
      rfl
    · rw [nmiEntry_eq]
  · refine ⟨intEntry s, _, ?_, trapEntered_trap _ s.pc _, rfl, rfl⟩
    rw [← acceptInt_eq]
    simp only [interruptCheck, hn, pendingNmi, pendingInt, hp, hi, hf, Bool.false_eq_true, ↓reduceIte, Bool.and_self]
  · rcases hi with hi | hi <;>
      simp only [interruptCheck, hn, pendingNmi, pendingInt, hp, hi, Bool.false_eq_true, ↓reduceIte, Bool.false_and,
        Bool.and_false]

end Sys2Proof.Proofs
end

section
/-! CMP of two registers, then a conditional jump (41_arithmetic R178, R184; 45_control_transfer R261). -/

namespace Sys2Proof.Proofs

open Sys2Proof Sys2Proof.Machine Sys2Proof.Laws

/-- The jump on `c` is taken, and the one on `d` is not. -/
def JumpsOn (c d : Cond) (t : State) : Prop :=
  (∀ rel, exec (jumpOn c rel) t = .next { t with pc := shortTarget t.pc rel }) ∧ ∀ rel, exec (jumpOn d rel) t = .next t

theorem jumpsOn_of {c d : Cond} {t : State} (hc : CondMeans c t.flags) (hd : ¬ CondMeans d t.flags) : JumpsOn c d t :=
  ⟨exec_jumpOn_taken hc, exec_jumpOn_skipped hd⟩

/-- Of two opposite conditions, the jump on the one that holds is taken. -/
theorem jumpsOn_either {c d : Cond} {t : State} {p : Prop} [Decidable p] (hc : CondMeans c t.flags ↔ p)
    (hd : CondMeans d t.flags ↔ ¬ p) :
    if p then JumpsOn c d t else (∀ rel, exec (jumpOn c rel) t = .next t) ∧
      ∀ rel, exec (jumpOn d rel) t = .next { t with pc := shortTarget t.pc rel } := by
  by_cases h : p
  · rw [if_pos h]
    exact jumpsOn_of (hc.mpr h) fun h' => hd.mp h' h
  · rw [if_neg h]
    exact ⟨exec_jumpOn_skipped (mt hc.mp h), exec_jumpOn_taken (hd.mpr h)⟩

section
variable {a b r : Word} {f g : Word}

theorem condMeans_le (h : Subtracts false a b f r g) : CondMeans .le g ↔ a.toInt ≤ b.toInt := by
  rw [CondMeans, zero_of_subtracts (.inr rfl) h, signed_of_subtracts (.inr rfl) h, ← BitVec.toInt_inj]
  omega

theorem condMeans_be (h : Subtracts false a b f r g) : CondMeans .be g ↔ a.toNat ≤ b.toNat := by
  rw [CondMeans, carry_of_subtracts h, zero_of_subtracts (.inr rfl) h, ← BitVec.toNat_inj]
  omega

end

theorem condMeans_ae (g : Word) : CondMeans .ae g ↔ ¬ CondMeans .b g := by simp [CondMeans]

theorem condMeans_a (g : Word) : CondMeans .a g ↔ ¬ CondMeans .be g := by simp [CondMeans]

theorem condMeans_ge (g : Word) : CondMeans .ge g ↔ ¬ CondMeans .l g := by simp [CondMeans]

theorem condMeans_g (g : Word) : CondMeans .g g ↔ ¬ CondMeans .le g := by simp [CondMeans]

theorem condMeans_ne (g : Word) : CondMeans .ne g ↔ ¬ CondMeans .e g := by simp [CondMeans]

/-- Settles O33: the flags of CMP say the order of the operands, and each pair of opposite jumps looks at one order. -/
theorem jumpsAfterCompare : Obligations.JumpsAfterCompare := by
  intro s t r1 r2 h a b
  have hcmp : exec (.cmpEwGw (.reg r1) r2) s = .next (setFlags (subOp a b false s.flags).2 s) :=
    exec_of_eq rfl (aluPlace16_cmp (.reg r1) b s)
  obtain rfl : setFlags (subOp a b false s.flags).2 s = t := by simpa [hcmp] using h
  have hs : Subtracts false a b s.flags (subOp a b false s.flags).1 (subOp a b false s.flags).2 :=
    subtracts_subOp (.inr rfl) false a b s.flags
  have hb : CondMeans .b (subOp a b false s.flags).2 ↔ a.toNat < b.toNat := carry_of_subtracts hs
  have hl : CondMeans .l (subOp a b false s.flags).2 ↔ a.toInt < b.toInt := signed_of_subtracts (.inr rfl) hs
  have he : CondMeans .e (subOp a b false s.flags).2 ↔ a = b := zero_of_subtracts (.inr rfl) hs
  exact ⟨jumpsOn_either (c := .b) (d := .ae) hb ((condMeans_ae _).trans hb.not),
    jumpsOn_either (c := .be) (d := .a) (condMeans_be hs) ((condMeans_a _).trans (condMeans_be hs).not),
    jumpsOn_either (c := .l) (d := .ge) hl ((condMeans_ge _).trans hl.not),
    jumpsOn_either (c := .le) (d := .g) (condMeans_le hs) ((condMeans_g _).trans (condMeans_le hs).not),
    jumpsOn_either (c := .e) (d := .ne) he ((condMeans_ne _).trans he.not)⟩

end Sys2Proof.Proofs
end

section
/-! The string instructions (44_string): one element without a prefix, and the repetition as an iteration of passes. The
elements do not look at the repeat prefix in force, at the segment override beyond the source segment, nor at a flag but DF,
which none of them writes; so a pass of the loop is `One()` of the instruction at that point, and a decrement of CX. -/

namespace Sys2Proof.Proofs

open Sys2Proof Sys2Proof.Machine Sys2Proof.Laws

/-! ## The repeat prefix is looked at by the loop alone -/

/-- The state with another repeat prefix in force. -/
def putRep (r : Option Rep) (s : State) : State := { s with rep := r }

section
variable (r : Option Rep) (s : State)

@[simp] theorem putRep_regs : (putRep r s).regs = s.regs := rfl

@[simp] theorem putRep_flags : (putRep r s).flags = s.flags := rfl

@[simp] theorem putRep_map : (putRep r s).map = s.map := rfl

@[simp] theorem putRep_mem : (putRep r s).mem = s.mem := rfl

@[simp] theorem putRep_segov : (putRep r s).segov = s.segov := rfl

@[simp] theorem putRep_rep : (putRep r s).rep = r := rfl

@[simp] theorem putRep_sreg (j : SReg) : (putRep r s).sreg j = s.sreg j := by cases j <;> rfl

@[simp] theorem putRep_reg16 (q : Reg16) : (putRep r s).reg16 q = s.reg16 q := by cases q <;> rfl

@[simp] theorem putRep_reg8 (q : Reg8) : (putRep r s).reg8 q = s.reg8 q := by cases q <;> rfl

@[simp] theorem setReg16_putRep (q : Reg16) (v : Word) : setReg16 q v (putRep r s) = putRep r (setReg16 q v s) := by
  cases q <;> rfl

@[simp] theorem setReg8_putRep (q : Reg8) (v : Byte) : setReg8 q v (putRep r s) = putRep r (setReg8 q v s) := by
  cases q <;> rfl

@[simp] theorem setFlags_putRep (f : Word) : setFlags f (putRep r s) = putRep r (setFlags f s) := rfl

theorem setIrqLine_putRep (line level : Nat) : setIrqLine line level (putRep r s) = putRep r (setIrqLine line level s) := by
  rcases line with _ | _ | _ <;> rfl

theorem irqCalls_putRep (l : List IrqCall) : irqCalls l (putRep r s) = putRep r (irqCalls l s) := by
  induction l generalizing s with
  | nil => rfl
  | cons c l ih =>
    simp only [irqCalls, List.foldl_cons, setIrqLine_putRep] at *
    exact ih _

theorem callDevice_putRep (e : DevEvent) :
    callDevice e (putRep r s) = ((callDevice e s).1, putRep r (callDevice e s).2) := by
  have h := irqCalls_putRep r (noteCall e s) (nextAnswer e s).irqs
  exact Prod.ext rfl (congrArg (fun t : State => { t with resetReq := t.resetReq || (nextAnswer e s).reset }) h)

theorem read8_putRep (a : Addr) : read8 a (putRep r s) = ((read8 a s).1, putRep r (read8 a s).2) := by
  simp only [read8, putRep_map, putRep_mem, callDevice_putRep]
  split
  · rfl
  · split
    · rfl
    · rfl
    · split <;> rfl

@[simp] theorem write8_putRep (a : Addr) (v : Byte) : write8 a v (putRep r s) = putRep r (write8 a v s) := by
  simp only [write8, putRep_map, putRep_mem, callDevice_putRep]
  split
  · rfl
  · split
    · rfl
    · rfl
    · split <;> rfl

@[simp] theorem segRead8_putRep (j : SReg) (off : Word) :
    segRead8 j off (putRep r s) = ((segRead8 j off s).1, putRep r (segRead8 j off s).2) := by
  simp only [segRead8, putRep_sreg, read8_putRep]

@[simp] theorem segRead16_putRep (j : SReg) (off : Word) :
    segRead16 j off (putRep r s) = ((segRead16 j off s).1, putRep r (segRead16 j off s).2) := by
  simp only [segRead16, putRep_sreg, read8_putRep]

@[simp] theorem segWrite8_putRep (j : SReg) (off : Word) (v : Byte) :
    segWrite8 j off v (putRep r s) = putRep r (segWrite8 j off v s) := by
  simp only [segWrite8, putRep_sreg, write8_putRep]

@[simp] theorem segWrite16_putRep (j : SReg) (off v : Word) :
    segWrite16 j off v (putRep r s) = putRep r (segWrite16 j off v s) := by
  simp only [segWrite16, putRep_sreg, write8_putRep]

end

/-! ## The elements (44_string R240, R242 to R246) -/

/-- The instruction `i` is a loop over the element `one` of `n` bytes, given the source segment and the step. -/
structure ElementOf (i : Instr) (n : Word) (loop : (State → State) → State → State) (one : SReg → Word → State → State) :
    Prop where
  exec_eq : ∀ s, exec i s = .next (loop (one (overridden .ds s) (stringDelta n s.flags)) s)
  putRep : ∀ src d r s, one src d (putRep r s) = putRep r (one src d s)
  segov : ∀ src d s, (one src d s).segov = s.segov
  rep : ∀ src d s, (one src d s).rep = s.rep
  cx : ∀ src d s, (one src d s).regs.cx = s.regs.cx
  df : ∀ src d s, getFlag .DF (one src d s).flags = getFlag .DF s.flags

theorem getFlag_DF_subOp {w : Nat} (a b : BitVec w) (c : Bool) (f : Word) :
    getFlag .DF (subOp a b c f).2 = getFlag .DF f := by simp [subOp, szpFlags]

theorem lodsOne8_cx (src : SReg) (d : Word) (s : State) : (lodsOne8 src d s).regs.cx = s.regs.cx := by
  have h := congrArg Regs.cx (segRead8_regs src s.regs.si s)
  exact h

theorem lodsOne16_cx (src : SReg) (d : Word) (s : State) : (lodsOne16 src d s).regs.cx = s.regs.cx := by
  have h := congrArg Regs.cx (segRead16_regs src s.regs.si s)
  exact h

theorem movsb_element : ElementOf .movsb 1 repeatPlain movsOne8 where
  exec_eq _ := rfl
  putRep _ _ _ _ := by simp [movsOne8, advanceSi, advanceDi]
  segov _ _ _ := by simp
  rep _ _ _ := by simp
  cx _ _ _ := by simp
  df _ _ _ := by simp

theorem movsw_element : ElementOf .movsw 2 repeatPlain movsOne16 where
  exec_eq _ := rfl
  putRep _ _ _ _ := by simp [movsOne16, advanceSi, advanceDi]
  segov _ _ _ := by simp
  rep _ _ _ := by simp
  cx _ _ _ := by simp
  df _ _ _ := by simp

theorem stosb_element : ElementOf .stosb 1 repeatPlain fun _ => stosOne8 where
  exec_eq _ := rfl
  putRep _ _ _ _ := by simp [stosOne8, advanceDi]
  segov _ _ _ := by simp
  rep _ _ _ := by simp
  cx _ _ _ := by simp
  df _ _ _ := by simp

theorem stosw_element : ElementOf .stosw 2 repeatPlain fun _ => stosOne16 where
  exec_eq _ := rfl
  putRep _ _ _ _ := by simp [stosOne16, advanceDi]
  segov _ _ _ := by simp
  rep _ _ _ := by simp
  cx _ _ _ := by simp
  df _ _ _ := by simp

theorem lodsb_element : ElementOf .lodsb 1 repeatPlain lodsOne8 where
  exec_eq _ := rfl
  putRep _ _ _ _ := by simp [lodsOne8, advanceSi]
  segov _ _ _ := by simp
  rep _ _ _ := by simp
  cx src d s := lodsOne8_cx src d s
  df _ _ _ := by simp

theorem lodsw_element : ElementOf .lodsw 2 repeatPlain lodsOne16 where
  exec_eq _ := rfl
  putRep _ _ _ _ := by simp [lodsOne16, advanceSi]
  segov _ _ _ := by simp
  rep _ _ _ := by simp
  cx src d s := lodsOne16_cx src d s
  df _ _ _ := by simp

theorem cmpsb_element : ElementOf .cmpsb 1 repeatCompare cmpsOne8 where
  exec_eq _ := rfl
  putRep _ _ _ _ := by simp [cmpsOne8, advanceSi, advanceDi]
  segov _ _ _ := by simp
  rep _ _ _ := by simp
  cx _ _ _ := by simp
  df _ _ _ := by simp [cmpsOne8, getFlag_DF_subOp]

theorem cmpsw_element : ElementOf .cmpsw 2 repeatCompare cmpsOne16 where
  exec_eq _ := rfl
  putRep _ _ _ _ := by simp [cmpsOne16, advanceSi, advanceDi]
  segov _ _ _ := by simp
  rep _ _ _ := by simp
  cx _ _ _ := by simp
  df _ _ _ := by simp [cmpsOne16, getFlag_DF_subOp]

theorem scasb_element : ElementOf .scasb 1 repeatCompare fun _ => scasOne8 where
  exec_eq _ := rfl
  putRep _ _ _ _ := by simp [scasOne8, advanceDi]
  segov _ _ _ := by simp
  rep _ _ _ := by simp
  cx _ _ _ := by simp
  df _ _ _ := by simp [scasOne8, getFlag_DF_subOp]

theorem scasw_element : ElementOf .scasw 2 repeatCompare fun _ => scasOne16 where
  exec_eq _ := rfl
  putRep _ _ _ _ := by simp [scasOne16, advanceDi]
  segov _ _ _ := by simp
  rep _ _ _ := by simp
  cx _ _ _ := by simp
  df _ _ _ := by simp [scasOne16, getFlag_DF_subOp]

/-! ## One element (44_string R241 without a prefix) -/

theorem stringDelta_eq (n : Word) (s : State) : stringDelta n s.flags = stride n s := by
  unfold stringDelta stride
  split
  · exact BitVec.zero_sub n
  · rfl

/-- SI and DI moved, from what they were at the start. -/
theorem advanceDi_advanceSi {s t : State} (h : t.regs = s.regs) (d : Word) :
    advanceDi d (advanceSi d t) = setReg16 .di (s.regs.di + d) (setReg16 .si (s.regs.si + d) t) := by
  simp only [advanceDi, advanceSi, setReg16, h]

theorem advanceDi_eq {s t : State} (h : t.regs.di = s.regs.di) (d : Word) :
    advanceDi d t = setReg16 .di (s.regs.di + d) t := by rw [advanceDi, h]

theorem advanceSi_eq {s t : State} (h : t.regs.si = s.regs.si) (d : Word) :
    advanceSi d t = setReg16 .si (s.regs.si + d) t := by rw [advanceSi, h]

section
variable {i : Instr} {n : Word} {one : SReg → Word → State → State} {s t : State}

theorem ElementOf.exec_plain (h : ElementOf i n repeatPlain one) (hr : s.rep = none)
    (ht : one (sourceSeg s) (stride n s) s = t) : exec i s = .next t := by
  rw [h.exec_eq, repeatPlain_none hr, stringDelta_eq]
  exact congrArg _ ht

theorem ElementOf.exec_compare (h : ElementOf i n repeatCompare one) (hr : s.rep = none)
    (ht : one (sourceSeg s) (stride n s) s = t) : exec i s = .next t := by
  rw [h.exec_eq, repeatCompare_none hr, stringDelta_eq]
  exact congrArg _ ht

end

/-- Settles O28: the loop without a prefix is its element, and each element is as its rule says. -/
theorem stringElements : Obligations.StringElements := by
  intro s hr
  refine ⟨movsb_element.exec_plain hr ?_, movsw_element.exec_plain hr ?_,
    ⟨_, _, cmpsb_element.exec_compare hr ?_, subtracts_subOp (.inl rfl) _ _ _ _⟩,
    ⟨_, _, cmpsw_element.exec_compare hr ?_, subtracts_subOp (.inr rfl) _ _ _ _⟩,
    stosb_element.exec_plain hr (advanceDi_eq (by simp) _), stosw_element.exec_plain hr (advanceDi_eq (by simp) _),
    lodsb_element.exec_plain hr (advanceSi_eq (by simp [setReg8_al_si]) _),
    lodsw_element.exec_plain hr (advanceSi_eq (by simp [setReg16_ax_si]) _),
    ⟨_, _, scasb_element.exec_compare hr ?_, subtracts_subOp (.inl rfl) _ _ _ _⟩,
    ⟨_, _, scasw_element.exec_compare hr ?_, subtracts_subOp (.inr rfl) _ _ _ _⟩⟩
  · simp only [movsOne8, segRead8_regs]
    exact advanceDi_advanceSi (by simp) _
  · simp only [movsOne16, segRead16_regs]
    exact advanceDi_advanceSi (by simp) _
  · simp only [cmpsOne8, segRead8_regs, segRead8_flags]
    exact advanceDi_advanceSi (by simp) _
  · simp only [cmpsOne16, segRead16_regs, segRead16_flags]
    exact advanceDi_advanceSi (by simp) _
  · simp only [scasOne8, segRead8_reg8, segRead8_flags]
    exact advanceDi_eq (by simp) _
  · simp only [scasOne16, segRead16_reg16, segRead16_flags]
    exact advanceDi_eq (by simp) _

/-! ## Passes (44_string R241) -/

section
variable {i : Instr} {n : Word} {loop : (State → State) → State → State} {one : SReg → Word → State → State}

/-- `One()` of the instruction, in any state. -/
theorem ElementOf.oneElement_eq (h : ElementOf i n loop one) (hloop : ∀ f a, a.rep = none → loop f a = f a) (a : State) :
    oneElement i a = one (overridden .ds a) (stringDelta n a.flags) a := by
  have he : exec i (Proofs.putRep none a) = .next (Proofs.putRep none (one (overridden .ds a) (stringDelta n a.flags) a)) := by
    rw [h.exec_eq, hloop _ _ rfl, h.putRep]
    rfl
  have hback : oneElement i a = Proofs.putRep a.rep (Proofs.putRep none (one (overridden .ds a) (stringDelta n a.flags) a)) := by
    unfold oneElement
    rw [show ({ a with rep := none } : State) = Proofs.putRep none a from rfl, he]
    rfl
  have hrep := h.rep (overridden .ds a) (stringDelta n a.flags) a
  rw [hback, ← hrep]
  rfl

/-- The states a repetition begun in `s` goes through: source segment, step and prefix are as they were. -/
structure InRun (s a : State) : Prop where
  segov : a.segov = s.segov
  df : getFlag .DF a.flags = getFlag .DF s.flags
  rep : a.rep = s.rep

theorem ElementOf.onePassOf_eq (h : ElementOf i n loop one) (hloop : ∀ f a, a.rep = none → loop f a = f a) {s a : State}
    (ha : InRun s a) : onePassOf i a = decCx (one (overridden .ds s) (stringDelta n s.flags) a) := by
  have hseg : overridden .ds a = overridden .ds s := congrArg (fun o => o.getD .ds) ha.segov
  have hdelta : stringDelta n a.flags = stringDelta n s.flags := by rw [stringDelta, stringDelta, ha.df]
  rw [← hseg, ← hdelta, ← h.oneElement_eq hloop]
  rfl

theorem ElementOf.inRun_pass (h : ElementOf i n loop one) {s a : State} (ha : InRun s a) (src : SReg) (d : Word) :
    InRun s (decCx (one src d a)) :=
  ⟨(h.segov src d a).trans ha.segov, (h.df src d a).trans ha.df, (h.rep src d a).trans ha.rep⟩

/-- The passes of the loop are those of the instruction at each point. -/
theorem ElementOf.iterate_eq (h : ElementOf i n loop one) (hloop : ∀ f a, a.rep = none → loop f a = f a) (s : State)
    (k : Nat) :
    (fun a => decCx (one (overridden .ds s) (stringDelta n s.flags) a))^[k] s = (onePassOf i)^[k] s ∧
      InRun s ((onePassOf i)^[k] s) := by
  induction k with
  | zero => exact ⟨rfl, rfl, rfl, rfl⟩
  | succ k ih =>
    obtain ⟨heq, hrun⟩ := ih
    simp only [Function.iterate_succ_apply', heq, h.onePassOf_eq hloop hrun]
    exact ⟨trivial, h.inRun_pass hrun _ _⟩

end

/-- CX after some passes. -/
theorem iterate_pass_cx {one : State → State} (hcx : ∀ a, (one a).regs.cx = a.regs.cx) (k : Nat) (s : State) :
    ((fun a => decCx (one a))^[k] s).regs.cx = s.regs.cx - BitVec.ofNat 16 k := by
  induction k with
  | zero => simp
  | succ k ih =>
    rw [Function.iterate_succ_apply', decCx_regs]
    simp only [hcx, ih]
    rw [BitVec.ofNat_add, BitVec.sub_sub]
    rfl

theorem sub_ofNat_toNat (x : Word) : x - BitVec.ofNat 16 x.toNat = 0 := by simp

/-- Settles O29: the loop is the iteration of its passes, and each takes 1 from CX. -/
theorem repeatedMoves : Obligations.RepeatedMoves := by
  intro s r i hi hr
  have hmoves {i : Instr} {n : Word} {one : SReg → Word → State → State} (h : ElementOf i n repeatPlain one) :
      exec i s = .next ((onePassOf i)^[s.regs.cx.toNat] s) ∧ ((onePassOf i)^[s.regs.cx.toNat] s).regs.cx = 0 := by
    obtain ⟨hit, -⟩ := h.iterate_eq (fun f a ha => repeatPlain_none ha f) s s.regs.cx.toNat
    have hcx := h.cx (overridden .ds s) (stringDelta n s.flags)
    rw [← hit, h.exec_eq, iterate_pass_cx hcx, sub_ofNat_toNat]
    refine ⟨congrArg _ ?_, rfl⟩
    simp only [repeatPlain, hr]
    exact repeatLoop_plain hcx _ s rfl
  simp only [List.mem_cons, List.not_mem_nil, or_false] at hi
  rcases hi with rfl | rfl | rfl | rfl | rfl | rfl
  · exact hmoves movsb_element
  · exact hmoves movsw_element
  · exact hmoves stosb_element
  · exact hmoves stosw_element
  · exact hmoves lodsb_element
  · exact hmoves lodsw_element

/-- The passes of a loop with a test after each: as many as CX says, or up to the first after which the test holds. -/
theorem repeatLoop_stops {one : State → State} (hcx : ∀ a, (one a).regs.cx = a.regs.cx) (stop : State → Bool) (n : Nat) :
    ∀ s : State, s.regs.cx.toNat = n → ∃ m, m ≤ n ∧ repeatLoop one stop n s = (fun a => decCx (one a))^[m] s ∧
      (∀ k, 0 < k → k < m → stop ((fun a => decCx (one a))^[k] s) = false) ∧
      (m = n ∨ (0 < m ∧ stop ((fun a => decCx (one a))^[m] s) = true)) := by
  induction n with
  | zero => exact fun s _ => ⟨0, Nat.le_refl 0, rfl, fun k h0 hk => absurd hk (by omega), .inl rfl⟩
  | succ n ih =>
    intro s h
    have h0 : s.regs.cx ≠ 0 := fun e => by rw [e] at h; simp at h
    have hn : (decCx (one s)).regs.cx.toNat = n := by
      simp only [decCx_regs, hcx]
      bv_omega
    have hpass : repeatLoop one stop (n + 1) s =
        if stop (decCx (one s)) then decCx (one s) else repeatLoop one stop n (decCx (one s)) := by
      simp only [repeatLoop, h0, ↓reduceIte]
    rw [hpass]
    by_cases hstop : stop (decCx (one s)) = true
    · rw [if_pos hstop]
      exact ⟨1, by omega, rfl, fun k hk hk1 => absurd hk1 (by omega), .inr ⟨by omega, hstop⟩⟩
    · rw [if_neg hstop]
      obtain ⟨m, hm, hloop, hno, hend⟩ := ih _ hn
      refine ⟨m + 1, by omega, hloop, fun k hk hkm => ?_, ?_⟩
      · rcases k with _ | _ | k
        · exact absurd hk (by omega)
        · exact Bool.eq_false_iff.mpr hstop
        · exact hno (k + 1) (by omega) (by omega)
      · rcases hend with rfl | ⟨-, hs⟩
        · exact .inl rfl
        · exact .inr ⟨by omega, hs⟩

theorem stopsOnZf_eq {r : Rep} {s : State} (h : s.rep = some r) : stopsOnZf s = zfStops r s := by
  unfold stopsOnZf
  rw [h]
  cases r <;> rfl

/-- Settles O30: the loop is the iteration of its passes up to the first after which ZF says stop. -/
theorem repeatedCompares : Obligations.RepeatedCompares := by
  intro s r i hi hr
  have hcompares {i : Instr} {n : Word} {one : SReg → Word → State → State} (h : ElementOf i n repeatCompare one) :
      ∃ n, n ≤ s.regs.cx.toNat ∧ exec i s = .next ((onePassOf i)^[n] s) ∧
        ((onePassOf i)^[n] s).regs.cx = s.regs.cx - BitVec.ofNat 16 n ∧
        (∀ k, 0 < k → k < n → stopsOnZf ((onePassOf i)^[k] s) = false) ∧
        (n = s.regs.cx.toNat ∨ (0 < n ∧ stopsOnZf ((onePassOf i)^[n] s) = true)) := by
    have hit := h.iterate_eq (fun f a ha => repeatCompare_none ha f) s
    have hcx := h.cx (overridden .ds s) (stringDelta n s.flags)
    have hstop (k : Nat) : stopsOnZf ((onePassOf i)^[k] s) = zfStops r ((onePassOf i)^[k] s) :=
      stopsOnZf_eq ((hit k).2.rep.trans hr)
    obtain ⟨m, hm, hloop, hno, hend⟩ := repeatLoop_stops hcx (zfStops r) _ s rfl
    simp only [(hit _).1] at hloop hno hend
    refine ⟨m, hm, ?_, ?_, fun k h0 hk => (hstop k).trans (hno k h0 hk), ?_⟩
    · rw [h.exec_eq, ← hloop]
      simp only [repeatCompare, hr]
    · rw [← (hit m).1, iterate_pass_cx hcx]
    · rw [hstop]
      exact hend
  simp only [List.mem_cons, List.not_mem_nil, or_false] at hi
  rcases hi with rfl | rfl | rfl | rfl
  · exact hcompares cmpsb_element
  · exact hcompares cmpsw_element
  · exact hcompares scasb_element
  · exact hcompares scasw_element

end Sys2Proof.Proofs
end

section
/-! REP MOVSB between areas of RAM that share no byte (44_string R240 to R242): before pass `k` the first `k` bytes are
copied and every source byte is as it was. -/

namespace Sys2Proof.Proofs

open Sys2Proof Sys2Proof.Machine Sys2Proof.Laws

/-- The address of destination byte `k`. -/
def destAt (s : State) (k : Nat) : Addr := phys (s.sreg .es) (s.regs.di + BitVec.ofNat 16 k * stride 1 s)

/-- The address of source byte `k`. -/
def sourceAt (s : State) (k : Nat) : Addr := phys (s.sreg (sourceSeg s)) (s.regs.si + BitVec.ofNat 16 k * stride 1 s)

theorem elementBytes_one (s : State) : elementBytes 1 s = (List.range (elementCount s)).map (destAt s) := by
  rw [List.map_eq_flatMap]
  simp only [elementBytes, segBytes_one, destAt, ← stringDelta_eq]
  rfl

/-- The areas of a copy of `n` bytes: the destination is RAM, no two of its bytes the same byte of a store, the source
calls no device and shares no byte with it. -/
structure Disjoint (s : State) (n : Nat) : Prop where
  ram : ∀ k < n, (writeCell s.map (destAt s k)).isSome = true
  inj : ∀ i < n, ∀ k < n, writeCell s.map (destAt s i) = writeCell s.map (destAt s k) → i = k
  source : ∀ k < n, isDevice s.map (sourceAt s k) = false
  apart : ∀ i < n, ∀ k < n, writeCell s.map (destAt s i) ≠ readCell s.map (sourceAt s k)

/-- `k` bytes are copied: the state before pass `k`. -/
structure Copied (s : State) (n k : Nat) (a : State) : Prop where
  place : AtElement s (stride 1 s) (stride 1 s) k a
  wf : Memory.wf a.mem = true
  source : ∀ i < n, peek8 (sourceAt s i) a = peek8 (sourceAt s i) s
  done : ∀ i < k, peek8 (destAt s i) a = peek8 (sourceAt s i) s

/-- An element of MOVSB whose source is no device. -/
theorem movsOne8_of_quiet {src : SReg} {a : State} (d : Word) (h : isDevice a.map (phys (a.sreg src) a.regs.si) = false) :
    movsOne8 src d a =
      advanceDi d (advanceSi d (write8 (phys (a.sreg .es) a.regs.di) (peek8 (phys (a.sreg src) a.regs.si) a) a)) := by
  simp only [movsOne8, segRead8, read8_of_not_isDevice h]
  rfl

theorem Copied.next {s a : State} {n k : Nat} (hd : Disjoint s n) (hk : k < n) (h : Copied s n k a) :
    Copied s n (k + 1) (decCx (movsOne8 (sourceSeg s) (stride 1 s) a)) := by
  have hsrc : phys (a.sreg (sourceSeg s)) a.regs.si = sourceAt s k := by rw [h.place.sreg, h.place.si]; rfl
  have hdst : phys (a.sreg .es) a.regs.di = destAt s k := by rw [h.place.sreg, h.place.di]; rfl
  have hone := movsOne8_of_quiet (src := sourceSeg s) (stride 1 s) (a := a)
    (by rw [hsrc, h.place.map]; exact hd.source k hk)
  rw [hsrc, hdst, h.source k hk] at hone
  have hpeek (x : Addr) : peek8 x (decCx (movsOne8 (sourceSeg s) (stride 1 s) a)) =
      peek8 x (write8 (destAt s k) (peek8 (sourceAt s k) s) a) := by
    rw [hone]
    exact peek8_eq (by simp) (by simp)
  have hram : (writeCell a.map (destAt s k)).isSome = true := by rw [h.place.map]; exact hd.ram k hk
  refine ⟨(h.place.next (by simp) (by simp) (by simp) (by simp)).dec, ?_, fun i hi => ?_, fun i hi => ?_⟩
  · rw [hone]
    exact write8_mem_wf _ _ h.wf
  · rw [hpeek, peek8_write8_ne _ (.inr (by rw [h.place.map]; exact hd.apart k hk i hi)), h.source i hi]
  · rw [hpeek]
    by_cases hik : i = k
    · rw [hik, peek8_write8 _ h.wf hram]
    · have hcell : writeCell a.map (destAt s k) ≠ writeCell a.map (destAt s i) := by
        rw [h.place.map]
        exact fun e => hik (hd.inj k hk i (by omega) e).symm
      have hi' : (writeCell a.map (destAt s i)).isSome = true := by rw [h.place.map]; exact hd.ram i (by omega)
      rw [peek8_write8_ne _ (.inr (writeCell_ne_readCell hi' hcell)), h.done i (by omega)]

theorem Copied.iterate {s : State} {n : Nat} (hw : Memory.wf s.mem = true) (hd : Disjoint s n) (k : Nat) (hk : k ≤ n) :
    Copied s n k ((fun a => decCx (movsOne8 (sourceSeg s) (stride 1 s) a))^[k] s) := by
  induction k with
  | zero => exact ⟨.start s _ _, hw, fun _ _ => rfl, fun _ h => absurd h (by omega)⟩
  | succ k ih =>
    rw [Function.iterate_succ_apply']
    exact (ih (by omega)).next hd (by omega)

/-- The areas that the obligation speaks of. -/
theorem disjoint_of_elementBytes {s : State} {n : Nat} (hn : elementCount s = n) (hram : onRam (elementBytes 1 s) s = true)
    (hsrc : ∀ k < n, isDevice s.map (sourceAt s k) = false ∧
      ∀ a ∈ elementBytes 1 s, writeCell s.map a ≠ readCell s.map (sourceAt s k)) : Disjoint s n := by
  rw [elementBytes_one, hn, onRam_iff, List.map_map, List.nodup_map_iff_inj_on List.nodup_range] at hram
  rw [elementBytes_one, hn] at hsrc
  have hmem : ∀ k < n, destAt s k ∈ (List.range n).map (destAt s) := fun k hk =>
    List.mem_map.mpr ⟨k, List.mem_range.mpr hk, rfl⟩
  exact ⟨fun k hk => hram.1 _ (hmem k hk),
    fun i hi k hk e => hram.2 i (List.mem_range.mpr hi) k (List.mem_range.mpr hk) e,
    fun k hk => (hsrc k hk).1, fun i hi k hk => (hsrc k hk).2 _ (hmem i hi)⟩

/-- Settles O31: by induction on the passes, from the invariant `Copied`. -/
theorem repeatedMoveCopies : Obligations.RepeatedMoveCopies := by
  intro s r hw hr hram hsrc
  have hn : elementCount s = s.regs.cx.toNat := by simp [elementCount, hr]
  have hcopied := Copied.iterate hw (disjoint_of_elementBytes hn hram hsrc) s.regs.cx.toNat (Nat.le_refl _)
  have hcx : ∀ a : State, (movsOne8 (sourceSeg s) (stride 1 s) a).regs.cx = a.regs.cx := fun a => by simp
  have hexec : exec .movsb s =
      .next ((fun a => decCx (movsOne8 (sourceSeg s) (stride 1 s) a))^[s.regs.cx.toNat] s) := by
    rw [movsb_element.exec_eq, ← repeatLoop_plain hcx _ s rfl, ← stringDelta_eq]
    simp only [repeatPlain, hr]
    rfl
  have hcount : BitVec.ofNat 16 s.regs.cx.toNat = s.regs.cx := by rw [BitVec.ofNat_toNat, BitVec.setWidth_eq]
  refine ⟨_, hexec, ?_, ?_, ?_, fun k hk => ?_⟩
  · rw [iterate_pass_cx hcx, sub_ofNat_toNat]
  · rw [hcopied.place.si, hcount]
  · rw [hcopied.place.di, hcount]
  · rw [peekByte, hcopied.place.sreg]
    exact hcopied.done k hk

end Sys2Proof.Proofs
end

section
/-! The Router byte by byte, segmented accesses, the accesses of a device operand, the interrupt lines, and the registers by
index (20_memory, 60_exceptions R325, 10_state R39, R40). -/

namespace Sys2Proof.Proofs

open Sys2Proof Sys2Proof.Machine Sys2Proof.Laws

/-! ## The state after reset (10_state R40) -/

/-- Settles O48: the state after reset evaluates. -/
theorem resetMeetsInvariant : Obligations.ResetMeetsInvariant := by
  refine ⟨⟨rfl, reset_mem_wf, rfl, rfl, rfl, rfl⟩, rfl, rfl, rfl, rfl, rfl, fun r => ?_, fun j hj => ?_, rfl, rfl, rfl, rfl, rfl,
    rfl⟩
  · cases r <;> rfl
  · cases j with
    | cs => exact absurd rfl hj
    | es | ss | ds => rfl

/-! ## Bytes by target (20_memory R54 to R57) -/

/-- A call is noted in the log. -/
theorem callDevice_devLog (e : DevEvent) (s : State) : (callDevice e s).2.devLog = s.devLog ++ [e] := by
  have h := irqCalls_eq (nextAnswer e s).irqs (noteCall e s)
  exact congrArg State.devLog h

section
variable {s : State} {a : Addr} {d : Region}

theorem read8_of_ram {n : Nat} (h : select s.map a = some d) (ht : d.target = .ram n) :
    read8 a s = (Memory.get s.mem (cellOf n (regionOffset d a)), s) := by simp only [read8, h, ht]

theorem write8_of_ram {n : Nat} (v : Byte) (h : select s.map a = some d) (ht : d.target = .ram n) :
    write8 a v s = { s with mem := Memory.set s.mem (cellOf n (regionOffset d a)) v } := by simp only [write8, h, ht]

theorem read8_of_rom {n : Nat} (h : select s.map a = some d) (ht : d.target = .rom n) :
    read8 a s = (Memory.get s.mem (cellOf n (regionOffset d a)), s) := by simp only [read8, h, ht]

theorem write8_of_rom {n : Nat} (v : Byte) (h : select s.map a = some d) (ht : d.target = .rom n) :
    write8 a v s = s := by simp only [write8, h, ht]

theorem read8_of_handler {dev : Nat} {r w : Bool} (h : select s.map a = some d) (ht : d.target = .handler dev r w) :
    read8 a s = if r then callDevice (.read dev (regionOffset d a)) s else (0xFF, s) := by
  simp only [read8, h, ht]
  rfl

theorem write8_of_handler {dev : Nat} {r w : Bool} (v : Byte) (h : select s.map a = some d)
    (ht : d.target = .handler dev r w) :
    write8 a v s = if w then (callDevice (.write dev (regionOffset d a) v) s).2 else s := by simp only [write8, h, ht]

end

/-- Settles O52: `read8` and `write8` at each target. -/
theorem routerByteAccess : Obligations.RouterByteAccess := by
  refine fun s a v => ⟨fun h => ⟨read8_of_unmapped h, write8_of_unmapped v h⟩, fun d h => ?_⟩
  refine ⟨fun n ht => ⟨read8_of_ram h ht, write8_of_ram v h ht⟩, fun n ht => ⟨read8_of_rom h ht, write8_of_rom v h ht⟩,
    fun dev w ht => read8_of_handler h ht, fun dev r ht => write8_of_handler v h ht, fun dev w ht => ?_, fun dev r ht => ?_⟩
  · have hr : read8 a s = callDevice (.read dev (regionOffset d a)) s := read8_of_handler h ht
    exact ⟨hr, by rw [hr]; exact callDevice_devLog _ s⟩
  · have hw : write8 a v s = (callDevice (.write dev (regionOffset d a) v) s).2 := write8_of_handler v h ht
    exact ⟨hw, by rw [hw]; exact callDevice_devLog _ s⟩

/-! ## Segmented accesses (20_memory R60, R62 to R64) -/

theorem ofNat_succ_mod (off : Word) : BitVec.ofNat 16 ((off.toNat + 1) % 65536) = off + 1 := by
  apply BitVec.eq_of_toNat_eq
  simp

/-- Settles O54: off the devices a read is a `peek8` of each byte, and RAM gives back what was written. -/
theorem segmentedAccess : Obligations.SegmentedAccess := by
  refine fun s j off v => ⟨BitVec.toNat_ofNat .., segRead16_of_quiet, ?_, fun hw h => ?_⟩
  · rw [ofNat_succ_mod]
    exact wordOf_toNat _ _
  · obtain ⟨hlo, hhi⟩ := peekByte_segWrite16 v hw h
    rw [hlo, hhi]
    exact ⟨peekWord_segWrite16 v hw h, loByte_toNat v, hiByte_toNat v⟩

/-! ## A device operand (20_memory R68, R70) -/

section
variable {s : State} {j : SReg} {off : Word} {d : Region} {dev : Nat}

/-- A byte operand in a handler region: the read is one call. -/
theorem readPlace8_of_device (h : select s.map (phys (s.sreg j) off) = some d) (ht : d.target = .handler dev true true) :
    readPlace8 (.mem j off) s = callDevice (.read dev (regionOffset d (phys (s.sreg j) off))) s := read8_of_handler h ht

/-- The write is one call. -/
theorem devLog_writePlace8_of_device (h : select s.map (phys (s.sreg j) off) = some d)
    (ht : d.target = .handler dev true true) (v : Byte) :
    (writePlace8 (.mem j off) v s).devLog = s.devLog ++ [.write dev (regionOffset d (phys (s.sreg j) off)) v] := by
  rw [show writePlace8 (.mem j off) v s = (callDevice (.write dev (regionOffset d (phys (s.sreg j) off)) v) s).2 from
    write8_of_handler v h ht]
  exact callDevice_devLog _ s

end

theorem addOp_value (a b : Byte) (f : Word) : (aluOp .add a b f).1 = a + b := by
  rw [aluOp, addOp]
  simp [BitVec.ofNat_add]

/-- Settles O55: the byte place of a device makes one call per access. -/
theorem deviceAccessedOnce : Obligations.DeviceAccessedOnce := by
  intro s t m reg d dev hsel ht off
  have hread := readPlace8_of_device hsel ht
  refine ⟨fun h => ?_, fun h => ?_, fun h => ?_⟩
  · obtain rfl : aluPlace8 .add (.mem (eaSeg m s) (eaOff m s)) (s.reg8 reg) s = t := by
      injection h
    refine ⟨_, ?_, rfl⟩
    simp only [aluPlace8, hread, aluWrites, ↓reduceIte, addOp_value]
    rw [devLog_writePlace8_of_device (d := d) (by simpa using hsel) ht, setFlags_devLog, callDevice_devLog,
      List.append_assoc, setFlags_sreg, callDevice_sreg]
    rfl
  · obtain rfl : aluPlace8 .cmp (.mem (eaSeg m s) (eaOff m s)) (s.reg8 reg) s = t := by
      injection h
    simp only [aluPlace8, hread, aluWrites, Bool.false_eq_true, ↓reduceIte]
    exact callDevice_devLog _ s
  · obtain rfl : writePlace8 (.mem (eaSeg m s) (eaOff m s)) (s.reg8 reg) s = t := by
      injection h
    exact devLog_writePlace8_of_device hsel ht _

/-! ## The interrupt lines (60_exceptions R325) -/

theorem pendingInt_setPendingInt (b : Bool) (s : State) : pendingInt (setPendingInt b s) = b := by
  cases b <;> simp [pendingInt, setPendingInt]

theorem pendingNmi_setPendingInt (b : Bool) (s : State) : pendingNmi (setPendingInt b s) = pendingNmi s := by
  cases b <;> simp [pendingNmi, setPendingInt]

theorem pendingNmi_setPendingNmi (b : Bool) (s : State) : pendingNmi (setPendingNmi b s) = b := by
  cases b <;> simp [pendingNmi, setPendingNmi]

theorem pendingInt_setPendingNmi (b : Bool) (s : State) : pendingInt (setPendingNmi b s) = pendingInt s := by
  cases b <;> simp [pendingInt, setPendingNmi]

theorem bne_zero_eq (level : Nat) : (level != 0) = decide (level ≠ 0) := by
  rcases level with _ | level <;> rfl

/-- Line INT: LINE takes the state, PENDING.INT follows the policy. -/
theorem setIrqLine_int (level : Nat) (s : State) : setIrqLine 0 level s =
    setPendingInt (latchPending s.latchInt s.lineInt (decide (level ≠ 0)) (pendingInt s))
      { s with lineInt := decide (level ≠ 0) } := by
  rw [← bne_zero_eq]
  rfl

/-- Line NMI, in the same way. -/
theorem setIrqLine_nmi (level : Nat) (s : State) : setIrqLine 1 level s =
    setPendingNmi (latchPending s.latchNmi s.lineNmi (decide (level ≠ 0)) (pendingNmi s))
      { s with lineNmi := decide (level ≠ 0) } := by
  rw [← bne_zero_eq]
  rfl

theorem latchPending_edge (old new pend : Bool) : latchPending .edge old new pend = (pend || (new && !old)) := by
  rw [latchPending, Bool.and_comm]

/-- All effects of a call: the answer's lines and PENDING, its reset request, and the records of the call. -/
theorem callDevice_eq (e : DevEvent) (s : State) : callDevice e s = ((nextAnswer e s).value, { s with
    lineInt := (irqCalls (nextAnswer e s).irqs s).lineInt
    lineNmi := (irqCalls (nextAnswer e s).irqs s).lineNmi
    pending := (irqCalls (nextAnswer e s).irqs s).pending
    resetReq := s.resetReq || (nextAnswer e s).reset
    devScript := s.devScript.tail
    devLog := s.devLog ++ [e] }) := by
  have hnote : irqCalls (nextAnswer e s).irqs (noteCall e s) =
      { irqCalls (nextAnswer e s).irqs s with resetReq := s.resetReq, devScript := s.devScript.tail, devLog := s.devLog ++ [e] } :=
    irqCalls_note _ s.resetReq _ _ s
  have hcalls := irqCalls_eq (nextAnswer e s).irqs s
  refine Prod.ext rfl ?_
  simp only [callDevice, applyAnswer]
  rw [show List.foldl (fun t c => setIrqLine c.line c.level t) (noteCall e s) (nextAnswer e s).irqs =
    irqCalls (nextAnswer e s).irqs (noteCall e s) from rfl, hnote]
  generalize irqCalls (nextAnswer e s).irqs s = u at *
  rw [hcalls]

theorem nextAnswer_of_script {e : DevEvent} {a : DevAnswer} {s : State}
    (h : s.devScript.head? = some a ∨ (s.devScript = [] ∧ Config.device (s.devLog ++ [e]) = a)) : nextAnswer e s = a := by
  unfold nextAnswer
  rcases h with h | ⟨h, ha⟩
  · cases hs : s.devScript with
    | nil => simp [hs] at h
    | cons b rest => simpa [hs] using h
  · simp only [h, ha]

/-- Settles O56: the two lines by the policy of each, and all effects of a call by those of its answer. -/
theorem irqLatching : Obligations.IrqLatching := by
  refine fun s level => ⟨?_, ?_, fun line hl => ?_, rfl, rfl, fun e a h => ?_⟩
  · refine ⟨by simp [setIrqLine_int], by rw [setIrqLine_int, pendingNmi_setPendingInt]; rfl,
      by rw [setIrqLine_int]; rfl, fun hl => ?_, fun hl => ?_⟩
    · rw [setIrqLine_int, pendingInt_setPendingInt, hl]
      rfl
    · rw [setIrqLine_int, pendingInt_setPendingInt, hl, latchPending_edge]
  · refine ⟨by simp [setIrqLine_nmi], by rw [setIrqLine_nmi, pendingInt_setPendingNmi]; rfl,
      by rw [setIrqLine_nmi]; rfl, fun hl => ?_, fun hl => ?_⟩
    · rw [setIrqLine_nmi, pendingNmi_setPendingNmi, hl]
      rfl
    · rw [setIrqLine_nmi, pendingNmi_setPendingNmi, hl, latchPending_edge]
  · match line, hl with
    | line + 2, _ => rfl
  · rw [callDevice_eq, nextAnswer_of_script h]

/-! ## Registers by index (10_state R39, R27) -/

theorem wholeFlags_ofNat (v : Nat) : (wholeFlags (BitVec.ofNat 16 v)).toNat = ((v % 65536) &&& 0x0FD5) ||| 0xF002 := by
  simp [wholeFlags]

/-- A 16-bit register written by index holds the value modulo 2^16. -/
theorem readRegister_writeRegister {i : Nat} (h : i ≤ 15) (h9 : i ≠ 9) (h14 : i ≠ 14) (h15 : i ≠ 15) (v : Nat) (s : State) :
    readRegister i (writeRegister i v s) = v % 65536 := by
  have hv : (BitVec.ofNat 16 v).toNat = v % 65536 := BitVec.toNat_ofNat v 16
  interval_cases i <;> first | exact hv | contradiction

/-- Over all pairs of different indices: the two registers are different fields. -/
theorem readRegister_writeRegister_ne {i j : Nat} (h : j ≠ i) (v : Nat) (s : State) :
    readRegister j (writeRegister i v s) = readRegister j s := by
  unfold writeRegister
  split
  all_goals
    unfold readRegister
    split <;> first | rfl | exact absurd rfl h

theorem readRegister_outside {i : Nat} (h : 15 < i) (s : State) : readRegister i s = 0 := by
  obtain ⟨k, rfl⟩ := Nat.exists_eq_add_of_le' h
  rfl

theorem writeRegister_outside {i : Nat} (h : 15 < i) (v : Nat) (s : State) : writeRegister i v s = s := by
  obtain ⟨k, rfl⟩ := Nat.exists_eq_add_of_le' h
  rfl

theorem writeRegister_rest (i v : Nat) (s : State) :
    ({ writeRegister i v s with
        regs := s.regs, segs := s.segs, pc := s.pc, flags := s.flags, vector := s.vector, pending := s.pending } : State) =
      s := by
  unfold writeRegister
  split <;> rfl

/-- Settles O59: each index is a field of its own. -/
theorem registersByIndex : Obligations.RegistersByIndex :=
  fun s i _ v => ⟨fun h h9 h14 h15 => readRegister_writeRegister h h9 h14 h15 v s, wholeFlags_ofNat v,
    BitVec.toNat_ofNat v 8, BitVec.toNat_ofNat v 2, fun h => readRegister_writeRegister_ne h v s,
    fun h => ⟨readRegister_outside h s, writeRegister_outside h v s⟩, writeRegister_rest i v s,
    rfl, rfl, rfl, rfl, rfl, rfl, rfl, rfl, rfl, rfl, rfl, rfl, rfl, rfl, rfl, rfl⟩

end Sys2Proof.Proofs
end

section
/-! Fetch, and what a step does with it: the bytes of an instruction are taken one by one while they decode to no more than a
beginning; prefixes act one by one; the halted core; a slice of execution (30_encoding R91 to R93, R102;
70_reset_and_hazards R370, R380, R381). -/

namespace Sys2Proof.Proofs

open Sys2Proof Sys2Proof.Machine Sys2Proof.Laws

/-! ## Prefixes (30_encoding R92, R93) -/

/-- The override a prefix puts in force. -/
def overrideOf (p : Instr) : Option SReg :=
  if p = .segES then some .es else if p = .segCS then some .cs else if p = .segSS then some .ss
  else if p = .segDS then some .ds else none

/-- The repeat prefix a prefix puts in force. -/
def repeatOf (p : Instr) : Option Rep := if p = .rep then some .e else if p = .repne then some .ne else none

/-- The last of the values given, over a value to begin with. -/
theorem foldl_or {α β : Type} (f : α → Option β) (ps : List α) (cur : Option β) :
    ps.foldl (fun c p => (f p).or c) cur = (ps.foldl (fun c p => (f p).or c) none).or cur := by
  induction ps generalizing cur with
  | nil => rfl
  | cons p ps ih =>
    rw [List.foldl_cons, List.foldl_cons, ih, ih ((f p).or none), Option.or_none, Option.or_assoc]

theorem lastOverride_eq (ps : List Instr) : lastOverride ps = ps.foldl (fun c p => (overrideOf p).or c) none := by
  unfold lastOverride
  congr 1
  funext c p
  unfold overrideOf
  split_ifs <;> rfl

theorem lastRepeat_eq (ps : List Instr) : lastRepeat ps = ps.foldl (fun c p => (repeatOf p).or c) none := by
  unfold lastRepeat
  congr 1
  funext c p
  unfold repeatOf
  split_ifs <;> rfl

theorem lastOverride_cons (p : Instr) (ps : List Instr) :
    lastOverride (p :: ps) = (lastOverride ps).or (overrideOf p) := by
  rw [lastOverride_eq, lastOverride_eq, List.foldl_cons, Option.or_none, foldl_or]

theorem lastRepeat_cons (p : Instr) (ps : List Instr) : lastRepeat (p :: ps) = (lastRepeat ps).or (repeatOf p) := by
  rw [lastRepeat_eq, lastRepeat_eq, List.foldl_cons, Option.or_none, foldl_or]

/-- One prefix. -/
theorem exec_prefix {p : Instr} (h : p.isPrefix = true) (s : State) :
    exec p s = .next { s with segov := (overrideOf p).or s.segov, rep := (repeatOf p).or s.rep } := by
  cases p with
  | segES | segCS | segSS | segDS | lock | repne | rep => rfl
  | _ => cases h

theorem runItems_prefixes {ps : List Instr} (h : ps.all Instr.isPrefix = true) (s : State) :
    runItems ps s = .next { s with segov := (lastOverride ps).or s.segov, rep := (lastRepeat ps).or s.rep } := by
  induction ps generalizing s with
  | nil => rfl
  | cons p ps ih =>
    rw [List.all_cons, Bool.and_eq_true] at h
    simp only [runItems, exec_prefix h.1, ih h.2, lastOverride_cons, lastRepeat_cons, Option.or_assoc]

/-- Settles O43, by induction on the run of prefixes. -/
theorem prefixRun : Obligations.PrefixRun :=
  ⟨fun s _ h => runItems_prefixes h s, fun _ => ⟨rfl, rfl, rfl, rfl, rfl, rfl, rfl⟩⟩

/-- Items run after items. -/
theorem runItems_append {xs : List Instr} {s t : State} (h : runItems xs s = .next t) (ys : List Instr) :
    runItems (xs ++ ys) s = runItems ys t := by
  induction xs generalizing s with
  | nil =>
    injection h with h
    rw [h]
    rfl
  | cons i xs ih =>
    obtain ⟨u, hu⟩ := exec_next i s
    simp only [List.cons_append, runItems, hu] at h ⊢
    exact ih h

/-! ## Bytes that follow do not change what is decoded (30_encoding R102) -/

theorem decodeItem_append_got {i : Instr} {bytes rest : List Byte} (h : decodeItem bytes = .got i rest) (ext : List Byte) :
    decodeItem (bytes ++ ext) = .got i (rest ++ ext) := by
  obtain ⟨hw, rfl⟩ := encodeOfDecode i bytes rest h
  rw [List.append_assoc]
  exact decodeOfEncode i _ hw

theorem decodeItem_append_illegal {bytes : List Byte} (h : decodeItem bytes = .illegal) (ext : List Byte) :
    decodeItem (bytes ++ ext) = .illegal := by
  obtain ⟨hlisted, hopcode, hmodrm, -⟩ := illegalEncodings
  match bytes with
  | [] => cases h
  | op :: tail =>
    by_cases hop : op ∈ illegalOpcodes
    · exact hlisted op _ hop
    · match tail with
      | [] => exact absurd h (hopcode op hop)
      | m :: rest => exact (hmodrm op m (rest ++ ext) hop).mpr ((hmodrm op m rest hop).mp h)

section
variable {n : Nat} {seen : List Instr} {bytes rest : List Byte} {i : Instr}

theorem decodeFrom_of_more (h : decodeItem bytes = .more) : decodeFrom n seen bytes = .more := by
  rw [decodeFrom.eq_def, h]

theorem decodeFrom_of_illegal (h : decodeItem bytes = .illegal) : decodeFrom n seen bytes = .illegal := by
  rw [decodeFrom.eq_def, h]

theorem decodeFrom_of_instr (h : decodeItem bytes = .got i rest) (hp : ¬ i.isPrefix = true) :
    decodeFrom n seen bytes = .got ⟨seen, i⟩ rest := by
  rw [decodeFrom.eq_def, h]
  exact if_neg hp

theorem decodeFrom_of_prefix (h : decodeItem bytes = .got i rest) (hp : i.isPrefix = true) :
    decodeFrom (n + 1) seen bytes = decodeFrom n (seen ++ [i]) rest := by
  rw [decodeFrom.eq_def, h]
  exact if_pos hp

theorem decodeFrom_of_last_prefix (h : decodeItem bytes = .got i rest) (hp : i.isPrefix = true) :
    decodeFrom 0 seen bytes = .illegal := by
  rw [decodeFrom.eq_def, h]
  exact if_pos hp

end

/-- What is read, with more bytes after those left over. -/
def readBefore {α : Type} (p : Parse α) (ext : List Byte) : Parse α :=
  match p with
  | .got a rest => .got a (rest ++ ext)
  | .illegal => .illegal
  | .more => .more

/-- What has been decided stays, whatever follows. -/
theorem decodeFrom_append {n : Nat} {seen : List Instr} {bytes : List Byte} (h : decodeFrom n seen bytes ≠ .more)
    (ext : List Byte) : decodeFrom n seen (bytes ++ ext) = readBefore (decodeFrom n seen bytes) ext := by
  induction n generalizing seen bytes with
  | zero =>
    cases hi : decodeItem bytes with
    | more => exact absurd (decodeFrom_of_more hi) h
    | illegal => rw [decodeFrom_of_illegal hi, decodeFrom_of_illegal (decodeItem_append_illegal hi ext)]; rfl
    | got i mid =>
      by_cases hp : i.isPrefix = true
      · rw [decodeFrom_of_last_prefix hi hp, decodeFrom_of_last_prefix (decodeItem_append_got hi ext) hp]; rfl
      · rw [decodeFrom_of_instr hi hp, decodeFrom_of_instr (decodeItem_append_got hi ext) hp]; rfl
  | succ n ih =>
    cases hi : decodeItem bytes with
    | more => exact absurd (decodeFrom_of_more hi) h
    | illegal => rw [decodeFrom_of_illegal hi, decodeFrom_of_illegal (decodeItem_append_illegal hi ext)]; rfl
    | got i mid =>
      by_cases hp : i.isPrefix = true
      · rw [decodeFrom_of_prefix hi hp] at h ⊢
        rw [decodeFrom_of_prefix (decodeItem_append_got hi ext) hp]
        exact ih h
      · rw [decodeFrom_of_instr hi hp, decodeFrom_of_instr (decodeItem_append_got hi ext) hp]; rfl

/-- A proper beginning of an instruction does not decode yet. -/
theorem decodeBytes_take {bytes : List Byte} {d : Decoded} (h : decodeBytes bytes = .got d []) {k : Nat}
    (hk : k < bytes.length) : decodeBytes (bytes.take k) = .more := by
  by_contra hne
  have happ : decodeBytes (bytes.take k ++ bytes.drop k) = readBefore (decodeBytes (bytes.take k)) (bytes.drop k) :=
    decodeFrom_append hne _
  rw [List.take_append_drop, h] at happ
  generalize decodeBytes (bytes.take k) = p at hne happ
  cases p with
  | more => exact hne rfl
  | illegal => cases happ
  | got d' rest =>
    injection happ with _ hrest
    have hlen : (rest ++ bytes.drop k).length = 0 := by rw [← hrest]; rfl
    rw [List.length_append, List.length_drop] at hlen
    omega

/-! ## Fetch (30_encoding R91) -/

/-- The outcome of a fetch, once the bytes decide. -/
def outcomeOf (p : Parse Decoded) : Option Decoded :=
  match p with
  | .got d _ => some d
  | .illegal => none
  | .more => none

/-- A code byte off the devices. -/
theorem fetch8_of_quiet {a : State} (h : isDevice a.map (phys a.segs.cs a.pc) = false) :
    fetch8 a = (peekByte .cs a.pc a, { a with pc := a.pc + 1 }) := by
  simp only [fetch8, read8_of_not_isDevice h]
  rfl

theorem bytesAt_tail {off : Word} {b : Byte} {bytes : List Byte} {a : State} (h : bytesAt .cs off (b :: bytes) a) :
    bytesAt .cs (off + 1) bytes { a with pc := off + 1 } := by
  intro k hk
  have hoff : off + 1 + BitVec.ofNat 16 k = off + BitVec.ofNat 16 (k + 1) := by
    rw [Nat.add_comm k 1]
    exact add_ofNat_add off 1 k
  rw [hoff]
  exact h (k + 1) (Nat.succ_lt_succ hk)

theorem quiet_tail {off : Word} {n : Nat} {a : State} (h : quiet (segBytes .cs off (n + 1) a) a = true) :
    quiet (segBytes .cs (off + 1) n { a with pc := off + 1 }) { a with pc := off + 1 } = true := by
  rw [quiet_segBytes_congr (s := a) (t := { a with pc := off + 1 }) rfl rfl]
  exact quiet_mono (segBytes_sub (i := 1) rfl (by omega)) h

/-- A fetch takes the bytes that decide and no more. -/
theorem fetchFrom_bytes (bytes : List Byte) (pre : List Byte) (fuel : Nat) (a : State) (hne : bytes ≠ [])
    (hlen : bytes.length ≤ fuel) (hmore : ∀ k, 0 < k → k < bytes.length → decodeBytes (pre ++ bytes.take k) = .more)
    (hdecided : decodeBytes (pre ++ bytes) ≠ .more) (hat : bytesAt .cs a.pc bytes a)
    (hq : quiet (segBytes .cs a.pc bytes.length a) a = true) :
    fetchFrom fuel pre a =
      (outcomeOf (decodeBytes (pre ++ bytes)), { a with pc := a.pc + BitVec.ofNat 16 bytes.length }) := by
  induction bytes generalizing pre fuel a with
  | nil => exact absurd rfl hne
  | cons b tail ih =>
    obtain ⟨fuel, rfl⟩ : ∃ f, fuel = f + 1 := Nat.exists_eq_add_one_of_ne_zero (by
      rw [List.length_cons] at hlen
      omega)
    have hdev : isDevice a.map (phys a.segs.cs a.pc) = false := by
      refine quiet_iff.mp hq _ (List.mem_map.mpr ⟨0, by simp, ?_⟩)
      rw [BitVec.add_zero]
      rfl
    have hb : peekByte .cs a.pc a = b := by
      have h0 := hat 0 (by simp)
      rwa [BitVec.add_zero] at h0
    simp only [fetchFrom, fetch8_of_quiet hdev, hb]
    by_cases ht : tail = []
    · subst ht
      generalize decodeBytes (pre ++ [b]) = p at hdecided ⊢
      cases p with
      | more => exact absurd rfl hdecided
      | illegal | got => rfl
    · have htail : 0 < tail.length := List.length_pos_iff.mpr ht
      have h1 : decodeBytes (pre ++ [b]) = .more := hmore 1 (by omega) (by rw [List.length_cons]; omega)
      have happ : ∀ l : List Byte, pre ++ [b] ++ l = pre ++ b :: l := fun l => by simp
      rw [h1]
      simp only
      rw [ih (pre ++ [b]) fuel { a with pc := a.pc + 1 } ht (by simpa using hlen)
        (fun k h0 hk => by rw [happ]; exact hmore (k + 1) (by omega) (by simpa using hk)) (by rwa [happ])
        (bytesAt_tail hat) (quiet_tail hq), happ]
      have hpc : a.pc + 1 + BitVec.ofNat 16 tail.length = a.pc + BitVec.ofNat 16 (b :: tail).length := by
        rw [List.length_cons, Nat.add_comm]
        exact add_ofNat_add a.pc 1 tail.length
      rw [hpc]

/-- The whole fetch, at most ten bytes. -/
theorem fetchInstruction_bytes {bytes : List Byte} {a : State} (hne : bytes ≠ [])
    (hmore : ∀ k, k < bytes.length → decodeBytes (bytes.take k) = .more) (hdecided : decodeBytes bytes ≠ .more)
    (hat : bytesAt .cs a.pc bytes a) (hq : quiet (segBytes .cs a.pc bytes.length a) a = true) :
    fetchInstruction a = (outcomeOf (decodeBytes bytes), { a with pc := a.pc + BitVec.ofNat 16 bytes.length }) := by
  have hpos : 0 < bytes.length := List.length_pos_iff.mpr hne
  have hlen : bytes.length ≤ maxLength := by
    have h := decodeFrom_eq_more (hmore (bytes.length - 1) (by omega))
    rw [List.length_take, Config.prefixMax] at h
    rw [maxLength]
    omega
  exact fetchFrom_bytes bytes [] maxLength a hne hlen (fun k _ hk => hmore k hk) hdecided hat hq

end Sys2Proof.Proofs
end

section
/-! The step of a running and of a halted core, the reset, and a slice of execution (70_reset_and_hazards R370 to R384). -/

namespace Sys2Proof.Proofs

open Sys2Proof Sys2Proof.Machine Sys2Proof.Laws

/-! ## A step runs what it fetches (70_reset_and_hazards R381) -/

theorem retired_of_decoded {s t : State} {d : Decoded} (hf : (fetchInstruction (clearPrefixes s)).1 = some d)
    (ht : runItems (d.prefixes ++ [d.instr]) (fetchInstruction (clearPrefixes s)).2 = .next t) :
    retired s = retire (phys s.segs.cs s.pc) t := by
  simp only [retired, instruction, hf, ht]

theorem retired_of_illegal {s : State} (hf : (fetchInstruction (clearPrefixes s)).1 = none) :
    retired s = retire (phys s.segs.cs s.pc) (illegalOpcode s.pc (fetchInstruction (clearPrefixes s)).2) := by
  simp only [retired, instruction, hf]

theorem runItems_single {i : Instr} {s t : State} (h : exec i s = .next t) : runItems [i] s = .next t := by
  simp only [runItems, h]

/-- The bytes of an instruction are not empty. -/
theorem ne_nil_of_decodeBytes {bytes : List Byte} (h : decodeBytes bytes ≠ .more) : bytes ≠ [] := by
  rintro rfl
  exact h rfl

/-- Where the bytes at CS:pc decide, the fetch of a step takes them. -/
theorem fetch_of_step {s : State} {bytes : List Byte} (hmore : ∀ k, k < bytes.length → decodeBytes (bytes.take k) = .more)
    (hdecided : decodeBytes bytes ≠ .more) (hat : bytesAt .cs s.pc bytes s)
    (hq : quiet (segBytes .cs s.pc bytes.length s) s = true) :
    fetchInstruction (clearPrefixes s) =
      (outcomeOf (decodeBytes bytes), { clearPrefixes s with pc := s.pc + BitVec.ofNat 16 bytes.length }) :=
  fetchInstruction_bytes (a := clearPrefixes s) (ne_nil_of_decodeBytes hdecided) hmore hdecided hat hq

/-- Settles O44: the fetch takes the bytes, the prefixes act, the instruction runs. -/
theorem stepRunsDecodedInstruction : Obligations.StepRunsDecodedInstruction := by
  intro s d bytes hd hat hq hh hm
  have hdecided : decodeBytes bytes ≠ .more := by rw [hd]; nofun
  have hf := fetch_of_step (fun k hk => decodeBytes_take hd hk) hdecided hat hq
  obtain ⟨ps, hpre, -, hps, -, -, -⟩ := decodeFrom_eq_got hd
  rw [List.nil_append] at hpre
  obtain ⟨t, ht⟩ := exec_next d.instr { s with
    pc := s.pc + BitVec.ofNat 16 bytes.length, segov := lastOverride d.prefixes, rep := lastRepeat d.prefixes }
  refine ⟨t, ht, ?_⟩
  have hrun : runItems (d.prefixes ++ [d.instr]) (fetchInstruction (clearPrefixes s)).2 = .next t := by
    have hprefixes := runItems_prefixes (hpre ▸ hps) (fetchInstruction (clearPrefixes s)).2
    rw [hf] at hprefixes ⊢
    rw [runItems_append hprefixes]
    refine runItems_single (Eq.trans ?_ ht)
    simp only [clearPrefixes, Option.or_none]
  have hfirst : (fetchInstruction (clearPrefixes s)).1 = some d := by rw [hf, hd]; rfl
  rw [step_of_running hm hh, retired_of_decoded hfirst hrun]
  rfl

theorem clearPrefixes_of_settled {s : State} (h : s.Settled) : clearPrefixes s = s := by
  obtain ⟨ho, hr, -, -⟩ := h
  rw [clearPrefixes, ← ho, ← hr]

/-- Settles O45: the fetch ends at the byte that shows the illegal encoding; pc goes back before the trap. -/
theorem illegalOpcodeTraps : Obligations.IllegalOpcodeTraps := by
  intro s bytes hd hmore hat hq hh hm hs
  have hdecided : decodeBytes bytes ≠ .more := by rw [hd]; nofun
  have hf := fetch_of_step hmore hdecided hat hq
  have hfirst : (fetchInstruction (clearPrefixes s)).1 = none := by rw [hf, hd]; rfl
  have htrap : illegalOpcode s.pc (fetchInstruction (clearPrefixes s)).2 = trap illegalVector s.pc s := by
    rw [hf, clearPrefixes_of_settled hs]
    rfl
  have hsettled : clearPrefixes (trap illegalVector s.pc s) = trap illegalVector s.pc s := by
    obtain ⟨ho, hr, -, -⟩ := hs
    have ho' := (trap_segov illegalVector s.pc s).trans ho
    have hr' := (trap_rep illegalVector s.pc s).trans hr
    rw [clearPrefixes, ← ho', ← hr']
  refine ⟨trap illegalVector s.pc s, trapEntered_trap 6 s.pc s, ?_⟩
  rw [step_of_running hm hh, retired_of_illegal hfirst, htrap, retire, hsettled]

/-! ## Reset (70_reset_and_hazards R370 to R372) -/

theorem boundary_of_no_request {s : State} (h : s.resetReq = false) :
    boundary s = ((interruptCheck s).1, settleReset (interruptCheck s).2) := by simp [boundary, h, checkAndSettle]

/-- Settles O58: the reset value of each field, and the branches of the boundary. -/
theorem resetOperation : Obligations.ResetOperation := by
  refine fun s => ⟨fun r => by cases r <;> rfl, rfl, rfl, rfl, rfl, rfl, rfl, rfl, rfl, rfl, rfl, ⟨rfl, rfl, rfl⟩, rfl, rfl, rfl,
    fun h => by simp [boundary, h], fun h hr => ?_, fun h hr => ?_⟩
  · rw [boundary_of_no_request h, settleReset, if_pos hr]
  · rw [boundary_of_no_request h, settleReset, if_neg (by simp [hr])]

/-! ## The halted core (60_exceptions R334) -/

/-- With no line that may interrupt, InterruptCheck does nothing. -/
theorem interruptCheck_none {s : State} (hs : s.Settled) (hp : pendingNmi s = false)
    (hi : pendingInt s = false ∨ getFlag .IF s.flags = false) : interruptCheck s = (false, s) :=
  (interruptCheckCases s).2.2.2 hs.2.2.1 hp hi

/-- A line that may interrupt is accepted, and the core is halted no more. -/
theorem interruptCheck_accepts {s : State} (hs : s.Settled)
    (h : pendingNmi s = true ∨ (pendingInt s = true ∧ getFlag .IF s.flags = true)) :
    (interruptCheck s).1 = true ∧ (interruptCheck s).2.halted = false := by
  obtain ⟨-, -, hn, -⟩ := hs
  obtain ⟨-, hnmi, hint, -⟩ := interruptCheckCases s
  by_cases hp : pendingNmi s = true
  · obtain ⟨u, t, ht, htrap, hu, -⟩ := hnmi hn hp
    rw [ht]
    exact ⟨rfl, htrap.rest.2.1.trans (by rw [hu])⟩
  · obtain ⟨hi, hf⟩ := h.resolve_left hp
    obtain ⟨u, t, ht, htrap, hu, -⟩ := hint hn (Bool.eq_false_iff.mpr hp) hi hf
    rw [ht]
    exact ⟨rfl, htrap.rest.2.1.trans (by rw [hu])⟩

theorem settleReset_halted {s : State} (h : s.halted = false) : (settleReset s).halted = false := by
  unfold settleReset
  split
  · rfl
  · exact h

/-- A halted core with nothing to wake it does not change. -/
theorem step_of_idle {s : State} (hm : mapWf s.map = true) (hh : s.halted = true) (hs : s.Settled)
    (hp : pendingNmi s = false) (hi : pendingInt s = false ∨ getFlag .IF s.flags = false) : step s = .next s := by
  have hsettle : settleReset s = s := if_neg (by simp [hs.2.2.2])
  rw [step_of_halted hm hh, checkAndSettle, interruptCheck_none hs hp hi]
  exact congrArg _ hsettle

/-- Settles O50: the step of a halted core is its InterruptCheck, whose cases O57 gives. -/
theorem haltedCoreWaits : Obligations.HaltedCoreWaits := by
  refine fun s hm hh => ⟨⟨step_of_halted hm hh, (keepsTrace_interruptCheck s).trace⟩, fun hs hp hi => step_of_idle hm hh hs hp hi,
    fun hs hw => ?_⟩
  obtain ⟨haccepted, hawake⟩ := interruptCheck_accepts hs hw
  exact ⟨haccepted, _, step_of_halted hm hh, settleReset_halted hawake, (keepsTrace_checkAndSettle s).trace⟩

/-! ## A slice of execution (70_reset_and_hazards R380, R384) -/

/-- What a run of the loop does, from `consumed` on: `n` steps that each cost something and begin below `cycles`; then either
`cycles` are reached, or an idle step ends the loop. -/
def RunsSteps (c : Costs) (cycles consumed : Nat) (s : State) (o : Host.Outcome (Nat × State) Fault Refusal) (n : Nat) : Prop :=
  (∀ k, k < n → step (afterSteps k s) = .next (afterSteps (k + 1) s) ∧ consumed + consumedBy c k s < cycles ∧
    0 < costOf c (afterSteps k s)) ∧
  (cycles ≤ consumed + consumedBy c n s ∧ o = .next (consumed + consumedBy c n s, afterSteps n s) ∨
    consumed + consumedBy c n s < cycles ∧ costOf c (afterSteps n s) = 0 ∧
      step (afterSteps n s) = .next (afterSteps (n + 1) s) ∧ o = .next (cycles, afterSteps (n + 1) s))

/-- One step in front. -/
theorem RunsSteps.cons {c : Costs} {cycles consumed : Nat} {s : State} {o : Host.Outcome (Nat × State) Fault Refusal} {n : Nat}
    (hstep : step s = .next (stepOnce s)) (hlt : consumed < cycles) (hcost : 0 < costOf c s)
    (h : RunsSteps c cycles (consumed + costOf c s) (stepOnce s) o n) : RunsSteps c cycles consumed s o (n + 1) := by
  obtain ⟨hsteps, hend⟩ := h
  have hsum (k : Nat) : consumed + costOf c s + consumedBy c k (stepOnce s) = consumed + consumedBy c (k + 1) s := by
    rw [consumedBy_succ, Nat.add_assoc]
  simp only [hsum, ← afterSteps_succ] at hsteps hend
  refine ⟨fun k hk => ?_, hend⟩
  rcases k with _ | k
  · exact ⟨hstep, hlt, hcost⟩
  · exact hsteps k (by omega)

/-- The loop, with fuel for the cycles that are left. -/
theorem executeFrom_runs {c : Costs} (hi : ∀ d, 0 < c.instr d) (ha : 0 < c.accept) (cycles fuel consumed : Nat) (s : State)
    (hm : mapWf s.map = true) (hfuel : cycles ≤ consumed + fuel) :
    ∃ n, RunsSteps c cycles consumed s (executeFrom c cycles fuel consumed s) n := by
  induction fuel generalizing consumed s with
  | zero => exact ⟨0, fun k hk => absurd hk (by omega), .inl ⟨hfuel, rfl⟩⟩
  | succ fuel ih =>
    obtain ⟨p, hpass, hstep, hp, haccepted, hkind, hcost⟩ := onePass_next hm
    rw [hp] at hstep
    by_cases hlt : consumed < cycles
    · simp only [executeFrom, hlt, ↓reduceIte, hpass, hkind, haccepted, hcost, hp, ← costOf_eq_zero hi ha]
      by_cases hidle : costOf c s = 0
      · rw [if_pos hidle]
        exact ⟨0, fun k hk => absurd hk (by omega), .inr ⟨hlt, hidle, hstep, rfl⟩⟩
      · rw [if_neg hidle]
        have hm' : mapWf (stepOnce s).map = true := by rw [(step_keeps hstep).1.map]; exact hm
        obtain ⟨n, hn⟩ := ih (consumed + costOf c s) (stepOnce s) hm' (by omega)
        exact ⟨n + 1, hn.cons hstep hlt (by omega)⟩
    · refine ⟨0, fun k hk => absurd hk (by omega), .inl ⟨by simpa using hlt, ?_⟩⟩
      simp only [executeFrom, hlt, ↓reduceIte]
      rfl

theorem consumedBy_succ_last (c : Costs) (n : Nat) (s : State) :
    consumedBy c (n + 1) s = consumedBy c n s + costOf c (afterSteps n s) := by
  simp [consumedBy, List.range_succ]

/-- At unit costs a step consumes at most 2: an instruction and an acceptance. -/
theorem costOf_unitCosts (s : State) : costOf unitCosts s ≤ 2 := by
  unfold costOf unitCosts
  split_ifs <;> simp

/-- At unit costs at most one more than `cycles` is consumed. -/
theorem consumedBy_unitCosts_le {cycles : Nat} {s : State} {n : Nat}
    (h : ∀ k, k < n → consumedBy unitCosts k s < cycles) : consumedBy unitCosts n s ≤ cycles + 1 := by
  rcases n with _ | n
  · simp
  · have hbefore := h n (by omega)
    have hlast := costOf_unitCosts (afterSteps n s)
    rw [consumedBy_succ_last]
    omega

theorem execute_of_nonpos {cycles : Int} (h : cycles ≤ 0) (c : Costs) (s : State) : execute c cycles s = .next (0, s) := by
  rw [execute, Int.toNat_of_nonpos h]
  rfl

/-- A halted core that nothing wakes burns the slice, whatever the costs. -/
theorem executeFrom_of_idle {c : Costs} {cycles fuel : Nat} {s : State} (hc : 0 < cycles) (hf : 0 < fuel)
    (hm : mapWf s.map = true) (hh : s.halted = true) (hs : s.Settled) (hp : pendingNmi s = false)
    (hi : pendingInt s = false ∨ getFlag .IF s.flags = false) : executeFrom c cycles fuel 0 s = .next (cycles, s) := by
  obtain ⟨fuel, rfl⟩ := Nat.exists_eq_add_one_of_ne_zero (by omega : fuel ≠ 0)
  obtain ⟨p, hpass, -, hstate, haccepted, hkind, -⟩ := onePass_next hm
  have hno : accepts s = false := by rw [accepts, if_pos hh, interruptCheck_none hs hp hi]
  rw [hno] at haccepted
  rw [stepOnce_of_next (step_of_idle hm hh hs hp hi)] at hstate
  simp only [executeFrom, hc, ↓reduceIte, hpass, hkind.mpr hh, haccepted, and_self, hstate]

/-- Settles O60: by induction on the fuel of the loop, from the equation of one pass. -/
theorem executeConsumesCycles : Obligations.ExecuteConsumesCycles := by
  intro s cycles
  refine ⟨fun c h => execute_of_nonpos h c s, fun c h hm hi ha => ?_, fun h hm => ?_, fun c h hm hh hs hp hi => ?_⟩
  · obtain ⟨n, hsteps, hend⟩ := executeFrom_runs hi ha cycles.toNat cycles.toNat 0 s hm (by omega)
    simp only [Nat.zero_add] at hsteps hend
    refine ⟨n, fun k hk => ?_, ?_⟩
    · obtain ⟨hstep, hlt, hcost⟩ := hsteps k hk
      exact ⟨hstep, by omega, hcost⟩
    · rcases hend with ⟨hge, ho⟩ | ⟨hlt, hidle, hstep, ho⟩
      · exact .inl ⟨by omega, ho⟩
      · exact .inr ⟨by omega, hidle, hstep, ho⟩
  · obtain ⟨n, hsteps, hend⟩ :=
      executeFrom_runs (c := unitCosts) (fun _ => Nat.one_pos) Nat.one_pos cycles.toNat cycles.toNat 0 s hm (by omega)
    simp only [Nat.zero_add] at hsteps hend
    have hle := consumedBy_unitCosts_le (cycles := cycles.toNat) fun k hk => (hsteps k hk).2.1
    rcases hend with ⟨hge, ho⟩ | ⟨-, -, -, ho⟩
    · exact ⟨_, _, ho, by omega, by omega⟩
    · exact ⟨_, _, ho, by omega, by omega⟩
  · exact executeFrom_of_idle (by omega) (by omega) hm hh hs hp hi

end Sys2Proof.Proofs
end
